-- ==== Sys2Proof/Word.lean ====
section
/-! DEFINITION. The word types of the CORE (spec/00_scope.md R6, R8): data is 8 bits wide, addresses are
16 bits wide, and the cycle count a step returns is an unsigned 32-bit number. -/

namespace Sys2Proof

/-- A data byte: 8 bits, bit 0 the least significant (R6, R8). -/
abbrev Byte := BitVec 8

/-- A 16-bit address; also the width of the program counter (R6). -/
abbrev Addr := BitVec 16

/-- The width of the cycle accumulator (R6, R37). -/
abbrev CycleCount := BitVec 32

end Sys2Proof
end

