-- ==== Sys2Proof/Syntax.lean ====
section
/-! DEFINITION. The instructions of the CORE: one constructor for each of the 256 rows of spec/opcode_table.json (the opcode
map of spec/30_encoding.md R86), with the operand bytes its addressing mode takes (R81, R85): `v` an immediate byte, `z` a
zero-page byte, `d` a branch displacement, `w` a 16-bit operand word. A mnemonic with several rows of one mode carries its
opcode value in the constructor's name. The rows with operand bytes stand first, each group in the table's order. -/

namespace Sys2Proof

/-- An instruction with its operand bytes. -/
inductive Instr where
  /-- `0x01`: ORA izx (R155). -/
  | oraIzx (z : Byte)
  /-- `0x03`: SLO izx (R246). -/
  | sloIzx (z : Byte)
  /-- `0x04`: NOP zp (R243). -/
  | nopZp04 (z : Byte)
  /-- `0x05`: ORA zp (R155). -/
  | oraZp (z : Byte)
  /-- `0x06`: ASL zp (R171). -/
  | aslZp (z : Byte)
  /-- `0x07`: SLO zp (R246). -/
  | sloZp (z : Byte)
  /-- `0x09`: ORA imm (R155). -/
  | oraImm (v : Byte)
  /-- `0x0B`: ANC imm (R254). -/
  | anc0B (v : Byte)
  /-- `0x0C`: NOP abs (R243). -/
  | nopAbs0C (w : Addr)
  /-- `0x0D`: ORA abs (R155). -/
  | oraAbs (w : Addr)
  /-- `0x0E`: ASL abs (R171). -/
  | aslAbs (w : Addr)
  /-- `0x0F`: SLO abs (R246). -/
  | sloAbs (w : Addr)
  /-- `0x10`: BPL rel (R196). -/
  | bpl (d : Byte)
  /-- `0x11`: ORA izy (R155). -/
  | oraIzy (z : Byte)
  /-- `0x13`: SLO izy (R246). -/
  | sloIzy (z : Byte)
  /-- `0x14`: NOP zpx (R243). -/
  | nopZpx14 (z : Byte)
  /-- `0x15`: ORA zpx (R155). -/
  | oraZpx (z : Byte)
  /-- `0x16`: ASL zpx (R171). -/
  | aslZpx (z : Byte)
  /-- `0x17`: SLO zpx (R246). -/
  | sloZpx (z : Byte)
  /-- `0x19`: ORA aby (R155). -/
  | oraAby (w : Addr)
  /-- `0x1B`: SLO aby (R246). -/
  | sloAby (w : Addr)
  /-- `0x1C`: NOP abx (R244). -/
  | nopAbx1C (w : Addr)
  /-- `0x1D`: ORA abx (R155). -/
  | oraAbx (w : Addr)
  /-- `0x1E`: ASL abx (R171). -/
  | aslAbx (w : Addr)
  /-- `0x1F`: SLO abx (R246). -/
  | sloAbx (w : Addr)
  /-- `0x20`: JSR abs (R201). -/
  | jsr (w : Addr)
  /-- `0x21`: AND izx (R154). -/
  | andIzx (z : Byte)
  /-- `0x23`: RLA izx (R247). -/
  | rlaIzx (z : Byte)
  /-- `0x24`: BIT zp (R160). -/
  | bitZp (z : Byte)
  /-- `0x25`: AND zp (R154). -/
  | andZp (z : Byte)
  /-- `0x26`: ROL zp (R173). -/
  | rolZp (z : Byte)
  /-- `0x27`: RLA zp (R247). -/
  | rlaZp (z : Byte)
  /-- `0x29`: AND imm (R154). -/
  | andImm (v : Byte)
  /-- `0x2B`: ANC imm (R254). -/
  | anc2B (v : Byte)
  /-- `0x2C`: BIT abs (R160). -/
  | bitAbs (w : Addr)
  /-- `0x2D`: AND abs (R154). -/
  | andAbs (w : Addr)
  /-- `0x2E`: ROL abs (R173). -/
  | rolAbs (w : Addr)
  /-- `0x2F`: RLA abs (R247). -/
  | rlaAbs (w : Addr)
  /-- `0x30`: BMI rel (R195). -/
  | bmi (d : Byte)
  /-- `0x31`: AND izy (R154). -/
  | andIzy (z : Byte)
  /-- `0x33`: RLA izy (R247). -/
  | rlaIzy (z : Byte)
  /-- `0x34`: NOP zpx (R243). -/
  | nopZpx34 (z : Byte)
  /-- `0x35`: AND zpx (R154). -/
  | andZpx (z : Byte)
  /-- `0x36`: ROL zpx (R173). -/
  | rolZpx (z : Byte)
  /-- `0x37`: RLA zpx (R247). -/
  | rlaZpx (z : Byte)
  /-- `0x39`: AND aby (R154). -/
  | andAby (w : Addr)
  /-- `0x3B`: RLA aby (R247). -/
  | rlaAby (w : Addr)
  /-- `0x3C`: NOP abx (R244). -/
  | nopAbx3C (w : Addr)
  /-- `0x3D`: AND abx (R154). -/
  | andAbx (w : Addr)
  /-- `0x3E`: ROL abx (R173). -/
  | rolAbx (w : Addr)
  /-- `0x3F`: RLA abx (R247). -/
  | rlaAbx (w : Addr)
  /-- `0x41`: EOR izx (R156). -/
  | eorIzx (z : Byte)
  /-- `0x43`: SRE izx (R248). -/
  | sreIzx (z : Byte)
  /-- `0x44`: NOP zp (R243). -/
  | nopZp44 (z : Byte)
  /-- `0x45`: EOR zp (R156). -/
  | eorZp (z : Byte)
  /-- `0x46`: LSR zp (R172). -/
  | lsrZp (z : Byte)
  /-- `0x47`: SRE zp (R248). -/
  | sreZp (z : Byte)
  /-- `0x49`: EOR imm (R156). -/
  | eorImm (v : Byte)
  /-- `0x4B`: ALR imm (R255). -/
  | alr (v : Byte)
  /-- `0x4C`: JMP abs (R199). -/
  | jmpAbs (w : Addr)
  /-- `0x4D`: EOR abs (R156). -/
  | eorAbs (w : Addr)
  /-- `0x4E`: LSR abs (R172). -/
  | lsrAbs (w : Addr)
  /-- `0x4F`: SRE abs (R248). -/
  | sreAbs (w : Addr)
  /-- `0x50`: BVC rel (R197). -/
  | bvc (d : Byte)
  /-- `0x51`: EOR izy (R156). -/
  | eorIzy (z : Byte)
  /-- `0x53`: SRE izy (R248). -/
  | sreIzy (z : Byte)
  /-- `0x54`: NOP zpx (R243). -/
  | nopZpx54 (z : Byte)
  /-- `0x55`: EOR zpx (R156). -/
  | eorZpx (z : Byte)
  /-- `0x56`: LSR zpx (R172). -/
  | lsrZpx (z : Byte)
  /-- `0x57`: SRE zpx (R248). -/
  | sreZpx (z : Byte)
  /-- `0x59`: EOR aby (R156). -/
  | eorAby (w : Addr)
  /-- `0x5B`: SRE aby (R248). -/
  | sreAby (w : Addr)
  /-- `0x5C`: NOP abx (R244). -/
  | nopAbx5C (w : Addr)
  /-- `0x5D`: EOR abx (R156). -/
  | eorAbx (w : Addr)
  /-- `0x5E`: LSR abx (R172). -/
  | lsrAbx (w : Addr)
  /-- `0x5F`: SRE abx (R248). -/
  | sreAbx (w : Addr)
  /-- `0x61`: ADC izx (R152). -/
  | adcIzx (z : Byte)
  /-- `0x63`: RRA izx (R249). -/
  | rraIzx (z : Byte)
  /-- `0x64`: NOP zp (R243). -/
  | nopZp64 (z : Byte)
  /-- `0x65`: ADC zp (R152). -/
  | adcZp (z : Byte)
  /-- `0x66`: ROR zp (R174). -/
  | rorZp (z : Byte)
  /-- `0x67`: RRA zp (R249). -/
  | rraZp (z : Byte)
  /-- `0x69`: ADC imm (R152). -/
  | adcImm (v : Byte)
  /-- `0x6B`: ARR imm (R256). -/
  | arr (v : Byte)
  /-- `0x6C`: JMP ind (R200). -/
  | jmpInd (w : Addr)
  /-- `0x6D`: ADC abs (R152). -/
  | adcAbs (w : Addr)
  /-- `0x6E`: ROR abs (R174). -/
  | rorAbs (w : Addr)
  /-- `0x6F`: RRA abs (R249). -/
  | rraAbs (w : Addr)
  /-- `0x70`: BVS rel (R198). -/
  | bvs (d : Byte)
  /-- `0x71`: ADC izy (R152). -/
  | adcIzy (z : Byte)
  /-- `0x73`: RRA izy (R249). -/
  | rraIzy (z : Byte)
  /-- `0x74`: NOP zpx (R243). -/
  | nopZpx74 (z : Byte)
  /-- `0x75`: ADC zpx (R152). -/
  | adcZpx (z : Byte)
  /-- `0x76`: ROR zpx (R174). -/
  | rorZpx (z : Byte)
  /-- `0x77`: RRA zpx (R249). -/
  | rraZpx (z : Byte)
  /-- `0x79`: ADC aby (R152). -/
  | adcAby (w : Addr)
  /-- `0x7B`: RRA aby (R249). -/
  | rraAby (w : Addr)
  /-- `0x7C`: NOP abx (R244). -/
  | nopAbx7C (w : Addr)
  /-- `0x7D`: ADC abx (R152). -/
  | adcAbx (w : Addr)
  /-- `0x7E`: ROR abx (R174). -/
  | rorAbx (w : Addr)
  /-- `0x7F`: RRA abx (R249). -/
  | rraAbx (w : Addr)
  /-- `0x80`: NOP imm (R242). -/
  | nopImm80 (v : Byte)
  /-- `0x81`: STA izx (R134). -/
  | staIzx (z : Byte)
  /-- `0x82`: NOP imm (R242). -/
  | nopImm82 (v : Byte)
  /-- `0x83`: SAX izx (R250). -/
  | saxIzx (z : Byte)
  /-- `0x84`: STY zp (R136). -/
  | styZp (z : Byte)
  /-- `0x85`: STA zp (R134). -/
  | staZp (z : Byte)
  /-- `0x86`: STX zp (R135). -/
  | stxZp (z : Byte)
  /-- `0x87`: SAX zp (R250). -/
  | saxZp (z : Byte)
  /-- `0x89`: NOP imm (R242). -/
  | nopImm89 (v : Byte)
  /-- `0x8B`: ANE imm (R260). -/
  | ane (v : Byte)
  /-- `0x8C`: STY abs (R136). -/
  | styAbs (w : Addr)
  /-- `0x8D`: STA abs (R134). -/
  | staAbs (w : Addr)
  /-- `0x8E`: STX abs (R135). -/
  | stxAbs (w : Addr)
  /-- `0x8F`: SAX abs (R250). -/
  | saxAbs (w : Addr)
  /-- `0x90`: BCC rel (R191). -/
  | bcc (d : Byte)
  /-- `0x91`: STA izy (R134). -/
  | staIzy (z : Byte)
  /-- `0x93`: SHA izy (R262). -/
  | shaIzy (z : Byte)
  /-- `0x94`: STY zpx (R136). -/
  | styZpx (z : Byte)
  /-- `0x95`: STA zpx (R134). -/
  | staZpx (z : Byte)
  /-- `0x96`: STX zpy (R135). -/
  | stxZpy (z : Byte)
  /-- `0x97`: SAX zpy (R250). -/
  | saxZpy (z : Byte)
  /-- `0x99`: STA aby (R134). -/
  | staAby (w : Addr)
  /-- `0x9B`: TAS aby (R265). -/
  | tas (w : Addr)
  /-- `0x9C`: SHY abx (R264). -/
  | shy (w : Addr)
  /-- `0x9D`: STA abx (R134). -/
  | staAbx (w : Addr)
  /-- `0x9E`: SHX aby (R263). -/
  | shx (w : Addr)
  /-- `0x9F`: SHA aby (R262). -/
  | shaAby (w : Addr)
  /-- `0xA0`: LDY imm (R133). -/
  | ldyImm (v : Byte)
  /-- `0xA1`: LDA izx (R131). -/
  | ldaIzx (z : Byte)
  /-- `0xA2`: LDX imm (R132). -/
  | ldxImm (v : Byte)
  /-- `0xA3`: LAX izx (R251). -/
  | laxIzx (z : Byte)
  /-- `0xA4`: LDY zp (R133). -/
  | ldyZp (z : Byte)
  /-- `0xA5`: LDA zp (R131). -/
  | ldaZp (z : Byte)
  /-- `0xA6`: LDX zp (R132). -/
  | ldxZp (z : Byte)
  /-- `0xA7`: LAX zp (R251). -/
  | laxZp (z : Byte)
  /-- `0xA9`: LDA imm (R131). -/
  | ldaImm (v : Byte)
  /-- `0xAB`: LXA imm (R261). -/
  | lxa (v : Byte)
  /-- `0xAC`: LDY abs (R133). -/
  | ldyAbs (w : Addr)
  /-- `0xAD`: LDA abs (R131). -/
  | ldaAbs (w : Addr)
  /-- `0xAE`: LDX abs (R132). -/
  | ldxAbs (w : Addr)
  /-- `0xAF`: LAX abs (R251). -/
  | laxAbs (w : Addr)
  /-- `0xB0`: BCS rel (R192). -/
  | bcs (d : Byte)
  /-- `0xB1`: LDA izy (R131). -/
  | ldaIzy (z : Byte)
  /-- `0xB3`: LAX izy (R251). -/
  | laxIzy (z : Byte)
  /-- `0xB4`: LDY zpx (R133). -/
  | ldyZpx (z : Byte)
  /-- `0xB5`: LDA zpx (R131). -/
  | ldaZpx (z : Byte)
  /-- `0xB6`: LDX zpy (R132). -/
  | ldxZpy (z : Byte)
  /-- `0xB7`: LAX zpy (R251). -/
  | laxZpy (z : Byte)
  /-- `0xB9`: LDA aby (R131). -/
  | ldaAby (w : Addr)
  /-- `0xBB`: LAS aby (R259). -/
  | las (w : Addr)
  /-- `0xBC`: LDY abx (R133). -/
  | ldyAbx (w : Addr)
  /-- `0xBD`: LDA abx (R131). -/
  | ldaAbx (w : Addr)
  /-- `0xBE`: LDX aby (R132). -/
  | ldxAby (w : Addr)
  /-- `0xBF`: LAX aby (R251). -/
  | laxAby (w : Addr)
  /-- `0xC0`: CPY imm (R159). -/
  | cpyImm (v : Byte)
  /-- `0xC1`: CMP izx (R157). -/
  | cmpIzx (z : Byte)
  /-- `0xC2`: NOP imm (R242). -/
  | nopImmC2 (v : Byte)
  /-- `0xC3`: DCP izx (R252). -/
  | dcpIzx (z : Byte)
  /-- `0xC4`: CPY zp (R159). -/
  | cpyZp (z : Byte)
  /-- `0xC5`: CMP zp (R157). -/
  | cmpZp (z : Byte)
  /-- `0xC6`: DEC zp (R176). -/
  | decZp (z : Byte)
  /-- `0xC7`: DCP zp (R252). -/
  | dcpZp (z : Byte)
  /-- `0xC9`: CMP imm (R157). -/
  | cmpImm (v : Byte)
  /-- `0xCB`: SBX imm (R257). -/
  | sbx (v : Byte)
  /-- `0xCC`: CPY abs (R159). -/
  | cpyAbs (w : Addr)
  /-- `0xCD`: CMP abs (R157). -/
  | cmpAbs (w : Addr)
  /-- `0xCE`: DEC abs (R176). -/
  | decAbs (w : Addr)
  /-- `0xCF`: DCP abs (R252). -/
  | dcpAbs (w : Addr)
  /-- `0xD0`: BNE rel (R194). -/
  | bne (d : Byte)
  /-- `0xD1`: CMP izy (R157). -/
  | cmpIzy (z : Byte)
  /-- `0xD3`: DCP izy (R252). -/
  | dcpIzy (z : Byte)
  /-- `0xD4`: NOP zpx (R243). -/
  | nopZpxD4 (z : Byte)
  /-- `0xD5`: CMP zpx (R157). -/
  | cmpZpx (z : Byte)
  /-- `0xD6`: DEC zpx (R176). -/
  | decZpx (z : Byte)
  /-- `0xD7`: DCP zpx (R252). -/
  | dcpZpx (z : Byte)
  /-- `0xD9`: CMP aby (R157). -/
  | cmpAby (w : Addr)
  /-- `0xDB`: DCP aby (R252). -/
  | dcpAby (w : Addr)
  /-- `0xDC`: NOP abx (R244). -/
  | nopAbxDC (w : Addr)
  /-- `0xDD`: CMP abx (R157). -/
  | cmpAbx (w : Addr)
  /-- `0xDE`: DEC abx (R176). -/
  | decAbx (w : Addr)
  /-- `0xDF`: DCP abx (R252). -/
  | dcpAbx (w : Addr)
  /-- `0xE0`: CPX imm (R158). -/
  | cpxImm (v : Byte)
  /-- `0xE1`: SBC izx (R153). -/
  | sbcIzx (z : Byte)
  /-- `0xE2`: NOP imm (R242). -/
  | nopImmE2 (v : Byte)
  /-- `0xE3`: ISC izx (R253). -/
  | iscIzx (z : Byte)
  /-- `0xE4`: CPX zp (R158). -/
  | cpxZp (z : Byte)
  /-- `0xE5`: SBC zp (R153). -/
  | sbcZp (z : Byte)
  /-- `0xE6`: INC zp (R175). -/
  | incZp (z : Byte)
  /-- `0xE7`: ISC zp (R253). -/
  | iscZp (z : Byte)
  /-- `0xE9`: SBC imm (R153). -/
  | sbcImm (v : Byte)
  /-- `0xEB`: USBC imm (R258). -/
  | usbc (v : Byte)
  /-- `0xEC`: CPX abs (R158). -/
  | cpxAbs (w : Addr)
  /-- `0xED`: SBC abs (R153). -/
  | sbcAbs (w : Addr)
  /-- `0xEE`: INC abs (R175). -/
  | incAbs (w : Addr)
  /-- `0xEF`: ISC abs (R253). -/
  | iscAbs (w : Addr)
  /-- `0xF0`: BEQ rel (R193). -/
  | beq (d : Byte)
  /-- `0xF1`: SBC izy (R153). -/
  | sbcIzy (z : Byte)
  /-- `0xF3`: ISC izy (R253). -/
  | iscIzy (z : Byte)
  /-- `0xF4`: NOP zpx (R243). -/
  | nopZpxF4 (z : Byte)
  /-- `0xF5`: SBC zpx (R153). -/
  | sbcZpx (z : Byte)
  /-- `0xF6`: INC zpx (R175). -/
  | incZpx (z : Byte)
  /-- `0xF7`: ISC zpx (R253). -/
  | iscZpx (z : Byte)
  /-- `0xF9`: SBC aby (R153). -/
  | sbcAby (w : Addr)
  /-- `0xFB`: ISC aby (R253). -/
  | iscAby (w : Addr)
  /-- `0xFC`: NOP abx (R244). -/
  | nopAbxFC (w : Addr)
  /-- `0xFD`: SBC abx (R153). -/
  | sbcAbx (w : Addr)
  /-- `0xFE`: INC abx (R175). -/
  | incAbx (w : Addr)
  /-- `0xFF`: ISC abx (R253). -/
  | iscAbx (w : Addr)
  /-- `0x00`: BRK imp (R222). -/
  | brk
  /-- `0x02`: JAM imp (R245). -/
  | jam02
  /-- `0x08`: PHP imp (R211). -/
  | php
  /-- `0x0A`: ASL acc (R171). -/
  | aslAcc
  /-- `0x12`: JAM imp (R245). -/
  | jam12
  /-- `0x18`: CLC imp (R214). -/
  | clc
  /-- `0x1A`: NOP imp (R241). -/
  | nopImp1A
  /-- `0x22`: JAM imp (R245). -/
  | jam22
  /-- `0x28`: PLP imp (R213). -/
  | plp
  /-- `0x2A`: ROL acc (R173). -/
  | rolAcc
  /-- `0x32`: JAM imp (R245). -/
  | jam32
  /-- `0x38`: SEC imp (R215). -/
  | sec
  /-- `0x3A`: NOP imp (R241). -/
  | nopImp3A
  /-- `0x40`: RTI imp (R223). -/
  | rti
  /-- `0x42`: JAM imp (R245). -/
  | jam42
  /-- `0x48`: PHA imp (R210). -/
  | pha
  /-- `0x4A`: LSR acc (R172). -/
  | lsrAcc
  /-- `0x52`: JAM imp (R245). -/
  | jam52
  /-- `0x58`: CLI imp (R216). -/
  | cli
  /-- `0x5A`: NOP imp (R241). -/
  | nopImp5A
  /-- `0x60`: RTS imp (R202). -/
  | rts
  /-- `0x62`: JAM imp (R245). -/
  | jam62
  /-- `0x68`: PLA imp (R212). -/
  | pla
  /-- `0x6A`: ROR acc (R174). -/
  | rorAcc
  /-- `0x72`: JAM imp (R245). -/
  | jam72
  /-- `0x78`: SEI imp (R217). -/
  | sei
  /-- `0x7A`: NOP imp (R241). -/
  | nopImp7A
  /-- `0x88`: DEY imp (R180). -/
  | dey
  /-- `0x8A`: TXA imp (R139). -/
  | txa
  /-- `0x92`: JAM imp (R245). -/
  | jam92
  /-- `0x98`: TYA imp (R140). -/
  | tya
  /-- `0x9A`: TXS imp (R142). -/
  | txs
  /-- `0xA8`: TAY imp (R138). -/
  | tay
  /-- `0xAA`: TAX imp (R137). -/
  | tax
  /-- `0xB2`: JAM imp (R245). -/
  | jamB2
  /-- `0xB8`: CLV imp (R218). -/
  | clv
  /-- `0xBA`: TSX imp (R141). -/
  | tsx
  /-- `0xC8`: INY imp (R178). -/
  | iny
  /-- `0xCA`: DEX imp (R179). -/
  | dex
  /-- `0xD2`: JAM imp (R245). -/
  | jamD2
  /-- `0xD8`: CLD imp (R219). -/
  | cld
  /-- `0xDA`: NOP imp (R241). -/
  | nopImpDA
  /-- `0xE8`: INX imp (R177). -/
  | inx
  /-- `0xEA`: NOP imp (R221). -/
  | nop
  /-- `0xF2`: JAM imp (R245). -/
  | jamF2
  /-- `0xF8`: SED imp (R220). -/
  | sed
  /-- `0xFA`: NOP imp (R241). -/
  | nopImpFA
  deriving DecidableEq, Repr

end Sys2Proof
end

