-- ==== Sys2Proof/Decode.lean ====
section
/-! DEFINITION. Decoding and encoding (spec/30_encoding.md R80 to R90): formats and lengths (R81, R84), the constant table of
256 records (R83, R86, R87), a decoder that is total on bytes and refuses only a byte string that ends too early, by name, and
the encoder. The opcode byte alone selects the instruction (R80, R88). -/

namespace Sys2Proof

/-! ### Bytes and words -/

/-- `hi(w)`, bits 15 to 8 (R8). -/
def hiByte (w : Addr) : Byte := w.extractLsb' 8 8

/-- `lo(w)`, bits 7 to 0 (R8). -/
def loByte (w : Addr) : Byte := w.extractLsb' 0 8

/-- `{h, l}`, `h` the more significant byte (R8). -/
def wordOf (h l : Byte) : Addr := h ++ l

/-! ### Formats, modes and the opcode table -/

/-- The three instruction formats: one, two and three bytes (R81). -/
inductive Format where
  | F1 | F2 | F3
  deriving DecidableEq, Repr

/-- The thirteen addressing modes, by the short names of R81. -/
inductive Mode where
  | imp | acc | imm | zp | zpx | zpy | rel | abs | abx | aby | ind | izx | izy
  deriving DecidableEq, Repr

/-- The format of each mode (R81). -/
def Mode.format : Mode → Format
  | .imp | .acc => .F1
  | .imm | .zp | .zpx | .zpy | .rel | .izx | .izy => .F2
  | .abs | .abx | .aby | .ind => .F3

/-- How many operand bytes follow the opcode (R84). -/
def Format.operandBytes : Format → Nat
  | .F1 => 0
  | .F2 => 1
  | .F3 => 2

/-- The field `class` of a table row (R87). -/
inductive AccessClass where
  | read | write | modify | implied | branch | jump | jam
  deriving DecidableEq, Repr

/-- The operations of the table, by its mnemonics, letter for letter (R83, R86). -/
inductive Operation where
  | ADC | ALR | ANC | AND | ANE | ARR | ASL | BCC | BCS | BEQ | BIT | BMI | BNE
  | BPL | BRK | BVC | BVS | CLC | CLD | CLI | CLV | CMP | CPX | CPY | DCP | DEC
  | DEX | DEY | EOR | INC | INX | INY | ISC | JAM | JMP | JSR | LAS | LAX | LDA
  | LDX | LDY | LSR | LXA | NOP | ORA | PHA | PHP | PLA | PLP | RLA | ROL | ROR
  | RRA | RTI | RTS | SAX | SBC | SBX | SEC | SED | SEI | SHA | SHX | SHY | SLO
  | SRE | STA | STX | STY | TAS | TAX | TAY | TSX | TXA | TXS | TYA | USBC
  deriving DecidableEq, Repr

/-- One record of the table (R83, R87). `baseCycles` is `none` for a JAM row, whose count is `JAM_CYCLES`. -/
structure OpcodeEntry where
  op : Operation
  mode : Mode
  baseCycles : Option Nat
  pagePenalty : Bool
  cls : AccessClass
  legal : Bool
  deriving DecidableEq, Repr

/-- Row 0x0x of the map of R86; the last arm is column xF. -/
def tableRow0 (column : Nat) : OpcodeEntry :=
  match column with
  | 0 => ⟨.BRK, .imp, some 7, false, .implied, true⟩
  | 1 => ⟨.ORA, .izx, some 6, false, .read, true⟩
  | 2 => ⟨.JAM, .imp, none, false, .jam, false⟩
  | 3 => ⟨.SLO, .izx, some 8, false, .modify, false⟩
  | 4 => ⟨.NOP, .zp, some 3, false, .read, false⟩
  | 5 => ⟨.ORA, .zp, some 3, false, .read, true⟩
  | 6 => ⟨.ASL, .zp, some 5, false, .modify, true⟩
  | 7 => ⟨.SLO, .zp, some 5, false, .modify, false⟩
  | 8 => ⟨.PHP, .imp, some 3, false, .implied, true⟩
  | 9 => ⟨.ORA, .imm, some 2, false, .read, true⟩
  | 10 => ⟨.ASL, .acc, some 2, false, .implied, true⟩
  | 11 => ⟨.ANC, .imm, some 2, false, .read, false⟩
  | 12 => ⟨.NOP, .abs, some 4, false, .read, false⟩
  | 13 => ⟨.ORA, .abs, some 4, false, .read, true⟩
  | 14 => ⟨.ASL, .abs, some 6, false, .modify, true⟩
  | _ => ⟨.SLO, .abs, some 6, false, .modify, false⟩

/-- Row 0x1x of the map of R86; the last arm is column xF. -/
def tableRow1 (column : Nat) : OpcodeEntry :=
  match column with
  | 0 => ⟨.BPL, .rel, some 2, false, .branch, true⟩
  | 1 => ⟨.ORA, .izy, some 5, true, .read, true⟩
  | 2 => ⟨.JAM, .imp, none, false, .jam, false⟩
  | 3 => ⟨.SLO, .izy, some 8, false, .modify, false⟩
  | 4 => ⟨.NOP, .zpx, some 4, false, .read, false⟩
  | 5 => ⟨.ORA, .zpx, some 4, false, .read, true⟩
  | 6 => ⟨.ASL, .zpx, some 6, false, .modify, true⟩
  | 7 => ⟨.SLO, .zpx, some 6, false, .modify, false⟩
  | 8 => ⟨.CLC, .imp, some 2, false, .implied, true⟩
  | 9 => ⟨.ORA, .aby, some 4, true, .read, true⟩
  | 10 => ⟨.NOP, .imp, some 2, false, .implied, false⟩
  | 11 => ⟨.SLO, .aby, some 7, false, .modify, false⟩
  | 12 => ⟨.NOP, .abx, some 4, true, .read, false⟩
  | 13 => ⟨.ORA, .abx, some 4, true, .read, true⟩
  | 14 => ⟨.ASL, .abx, some 7, false, .modify, true⟩
  | _ => ⟨.SLO, .abx, some 7, false, .modify, false⟩

/-- Row 0x2x of the map of R86; the last arm is column xF. -/
def tableRow2 (column : Nat) : OpcodeEntry :=
  match column with
  | 0 => ⟨.JSR, .abs, some 6, false, .jump, true⟩
  | 1 => ⟨.AND, .izx, some 6, false, .read, true⟩
  | 2 => ⟨.JAM, .imp, none, false, .jam, false⟩
  | 3 => ⟨.RLA, .izx, some 8, false, .modify, false⟩
  | 4 => ⟨.BIT, .zp, some 3, false, .read, true⟩
  | 5 => ⟨.AND, .zp, some 3, false, .read, true⟩
  | 6 => ⟨.ROL, .zp, some 5, false, .modify, true⟩
  | 7 => ⟨.RLA, .zp, some 5, false, .modify, false⟩
  | 8 => ⟨.PLP, .imp, some 4, false, .implied, true⟩
  | 9 => ⟨.AND, .imm, some 2, false, .read, true⟩
  | 10 => ⟨.ROL, .acc, some 2, false, .implied, true⟩
  | 11 => ⟨.ANC, .imm, some 2, false, .read, false⟩
  | 12 => ⟨.BIT, .abs, some 4, false, .read, true⟩
  | 13 => ⟨.AND, .abs, some 4, false, .read, true⟩
  | 14 => ⟨.ROL, .abs, some 6, false, .modify, true⟩
  | _ => ⟨.RLA, .abs, some 6, false, .modify, false⟩

/-- Row 0x3x of the map of R86; the last arm is column xF. -/
def tableRow3 (column : Nat) : OpcodeEntry :=
  match column with
  | 0 => ⟨.BMI, .rel, some 2, false, .branch, true⟩
  | 1 => ⟨.AND, .izy, some 5, true, .read, true⟩
  | 2 => ⟨.JAM, .imp, none, false, .jam, false⟩
  | 3 => ⟨.RLA, .izy, some 8, false, .modify, false⟩
  | 4 => ⟨.NOP, .zpx, some 4, false, .read, false⟩
  | 5 => ⟨.AND, .zpx, some 4, false, .read, true⟩
  | 6 => ⟨.ROL, .zpx, some 6, false, .modify, true⟩
  | 7 => ⟨.RLA, .zpx, some 6, false, .modify, false⟩
  | 8 => ⟨.SEC, .imp, some 2, false, .implied, true⟩
  | 9 => ⟨.AND, .aby, some 4, true, .read, true⟩
  | 10 => ⟨.NOP, .imp, some 2, false, .implied, false⟩
  | 11 => ⟨.RLA, .aby, some 7, false, .modify, false⟩
  | 12 => ⟨.NOP, .abx, some 4, true, .read, false⟩
  | 13 => ⟨.AND, .abx, some 4, true, .read, true⟩
  | 14 => ⟨.ROL, .abx, some 7, false, .modify, true⟩
  | _ => ⟨.RLA, .abx, some 7, false, .modify, false⟩

/-- Row 0x4x of the map of R86; the last arm is column xF. -/
def tableRow4 (column : Nat) : OpcodeEntry :=
  match column with
  | 0 => ⟨.RTI, .imp, some 6, false, .implied, true⟩
  | 1 => ⟨.EOR, .izx, some 6, false, .read, true⟩
  | 2 => ⟨.JAM, .imp, none, false, .jam, false⟩
  | 3 => ⟨.SRE, .izx, some 8, false, .modify, false⟩
  | 4 => ⟨.NOP, .zp, some 3, false, .read, false⟩
  | 5 => ⟨.EOR, .zp, some 3, false, .read, true⟩
  | 6 => ⟨.LSR, .zp, some 5, false, .modify, true⟩
  | 7 => ⟨.SRE, .zp, some 5, false, .modify, false⟩
  | 8 => ⟨.PHA, .imp, some 3, false, .implied, true⟩
  | 9 => ⟨.EOR, .imm, some 2, false, .read, true⟩
  | 10 => ⟨.LSR, .acc, some 2, false, .implied, true⟩
  | 11 => ⟨.ALR, .imm, some 2, false, .read, false⟩
  | 12 => ⟨.JMP, .abs, some 3, false, .jump, true⟩
  | 13 => ⟨.EOR, .abs, some 4, false, .read, true⟩
  | 14 => ⟨.LSR, .abs, some 6, false, .modify, true⟩
  | _ => ⟨.SRE, .abs, some 6, false, .modify, false⟩

/-- Row 0x5x of the map of R86; the last arm is column xF. -/
def tableRow5 (column : Nat) : OpcodeEntry :=
  match column with
  | 0 => ⟨.BVC, .rel, some 2, false, .branch, true⟩
  | 1 => ⟨.EOR, .izy, some 5, true, .read, true⟩
  | 2 => ⟨.JAM, .imp, none, false, .jam, false⟩
  | 3 => ⟨.SRE, .izy, some 8, false, .modify, false⟩
  | 4 => ⟨.NOP, .zpx, some 4, false, .read, false⟩
  | 5 => ⟨.EOR, .zpx, some 4, false, .read, true⟩
  | 6 => ⟨.LSR, .zpx, some 6, false, .modify, true⟩
  | 7 => ⟨.SRE, .zpx, some 6, false, .modify, false⟩
  | 8 => ⟨.CLI, .imp, some 2, false, .implied, true⟩
  | 9 => ⟨.EOR, .aby, some 4, true, .read, true⟩
  | 10 => ⟨.NOP, .imp, some 2, false, .implied, false⟩
  | 11 => ⟨.SRE, .aby, some 7, false, .modify, false⟩
  | 12 => ⟨.NOP, .abx, some 4, true, .read, false⟩
  | 13 => ⟨.EOR, .abx, some 4, true, .read, true⟩
  | 14 => ⟨.LSR, .abx, some 7, false, .modify, true⟩
  | _ => ⟨.SRE, .abx, some 7, false, .modify, false⟩

/-- Row 0x6x of the map of R86; the last arm is column xF. -/
def tableRow6 (column : Nat) : OpcodeEntry :=
  match column with
  | 0 => ⟨.RTS, .imp, some 6, false, .implied, true⟩
  | 1 => ⟨.ADC, .izx, some 6, false, .read, true⟩
  | 2 => ⟨.JAM, .imp, none, false, .jam, false⟩
  | 3 => ⟨.RRA, .izx, some 8, false, .modify, false⟩
  | 4 => ⟨.NOP, .zp, some 3, false, .read, false⟩
  | 5 => ⟨.ADC, .zp, some 3, false, .read, true⟩
  | 6 => ⟨.ROR, .zp, some 5, false, .modify, true⟩
  | 7 => ⟨.RRA, .zp, some 5, false, .modify, false⟩
  | 8 => ⟨.PLA, .imp, some 4, false, .implied, true⟩
  | 9 => ⟨.ADC, .imm, some 2, false, .read, true⟩
  | 10 => ⟨.ROR, .acc, some 2, false, .implied, true⟩
  | 11 => ⟨.ARR, .imm, some 2, false, .read, false⟩
  | 12 => ⟨.JMP, .ind, some 5, false, .jump, true⟩
  | 13 => ⟨.ADC, .abs, some 4, false, .read, true⟩
  | 14 => ⟨.ROR, .abs, some 6, false, .modify, true⟩
  | _ => ⟨.RRA, .abs, some 6, false, .modify, false⟩

/-- Row 0x7x of the map of R86; the last arm is column xF. -/
def tableRow7 (column : Nat) : OpcodeEntry :=
  match column with
  | 0 => ⟨.BVS, .rel, some 2, false, .branch, true⟩
  | 1 => ⟨.ADC, .izy, some 5, true, .read, true⟩
  | 2 => ⟨.JAM, .imp, none, false, .jam, false⟩
  | 3 => ⟨.RRA, .izy, some 8, false, .modify, false⟩
  | 4 => ⟨.NOP, .zpx, some 4, false, .read, false⟩
  | 5 => ⟨.ADC, .zpx, some 4, false, .read, true⟩
  | 6 => ⟨.ROR, .zpx, some 6, false, .modify, true⟩
  | 7 => ⟨.RRA, .zpx, some 6, false, .modify, false⟩
  | 8 => ⟨.SEI, .imp, some 2, false, .implied, true⟩
  | 9 => ⟨.ADC, .aby, some 4, true, .read, true⟩
  | 10 => ⟨.NOP, .imp, some 2, false, .implied, false⟩
  | 11 => ⟨.RRA, .aby, some 7, false, .modify, false⟩
  | 12 => ⟨.NOP, .abx, some 4, true, .read, false⟩
  | 13 => ⟨.ADC, .abx, some 4, true, .read, true⟩
  | 14 => ⟨.ROR, .abx, some 7, false, .modify, true⟩
  | _ => ⟨.RRA, .abx, some 7, false, .modify, false⟩

/-- Row 0x8x of the map of R86; the last arm is column xF. -/
def tableRow8 (column : Nat) : OpcodeEntry :=
  match column with
  | 0 => ⟨.NOP, .imm, some 2, false, .read, false⟩
  | 1 => ⟨.STA, .izx, some 6, false, .write, true⟩
  | 2 => ⟨.NOP, .imm, some 2, false, .read, false⟩
  | 3 => ⟨.SAX, .izx, some 6, false, .write, false⟩
  | 4 => ⟨.STY, .zp, some 3, false, .write, true⟩
  | 5 => ⟨.STA, .zp, some 3, false, .write, true⟩
  | 6 => ⟨.STX, .zp, some 3, false, .write, true⟩
  | 7 => ⟨.SAX, .zp, some 3, false, .write, false⟩
  | 8 => ⟨.DEY, .imp, some 2, false, .implied, true⟩
  | 9 => ⟨.NOP, .imm, some 2, false, .read, false⟩
  | 10 => ⟨.TXA, .imp, some 2, false, .implied, true⟩
  | 11 => ⟨.ANE, .imm, some 2, false, .read, false⟩
  | 12 => ⟨.STY, .abs, some 4, false, .write, true⟩
  | 13 => ⟨.STA, .abs, some 4, false, .write, true⟩
  | 14 => ⟨.STX, .abs, some 4, false, .write, true⟩
  | _ => ⟨.SAX, .abs, some 4, false, .write, false⟩

/-- Row 0x9x of the map of R86; the last arm is column xF. -/
def tableRow9 (column : Nat) : OpcodeEntry :=
  match column with
  | 0 => ⟨.BCC, .rel, some 2, false, .branch, true⟩
  | 1 => ⟨.STA, .izy, some 6, false, .write, true⟩
  | 2 => ⟨.JAM, .imp, none, false, .jam, false⟩
  | 3 => ⟨.SHA, .izy, some 6, false, .write, false⟩
  | 4 => ⟨.STY, .zpx, some 4, false, .write, true⟩
  | 5 => ⟨.STA, .zpx, some 4, false, .write, true⟩
  | 6 => ⟨.STX, .zpy, some 4, false, .write, true⟩
  | 7 => ⟨.SAX, .zpy, some 4, false, .write, false⟩
  | 8 => ⟨.TYA, .imp, some 2, false, .implied, true⟩
  | 9 => ⟨.STA, .aby, some 5, false, .write, true⟩
  | 10 => ⟨.TXS, .imp, some 2, false, .implied, true⟩
  | 11 => ⟨.TAS, .aby, some 5, false, .write, false⟩
  | 12 => ⟨.SHY, .abx, some 5, false, .write, false⟩
  | 13 => ⟨.STA, .abx, some 5, false, .write, true⟩
  | 14 => ⟨.SHX, .aby, some 5, false, .write, false⟩
  | _ => ⟨.SHA, .aby, some 5, false, .write, false⟩

/-- Row 0xAx of the map of R86; the last arm is column xF. -/
def tableRowA (column : Nat) : OpcodeEntry :=
  match column with
  | 0 => ⟨.LDY, .imm, some 2, false, .read, true⟩
  | 1 => ⟨.LDA, .izx, some 6, false, .read, true⟩
  | 2 => ⟨.LDX, .imm, some 2, false, .read, true⟩
  | 3 => ⟨.LAX, .izx, some 6, false, .read, false⟩
  | 4 => ⟨.LDY, .zp, some 3, false, .read, true⟩
  | 5 => ⟨.LDA, .zp, some 3, false, .read, true⟩
  | 6 => ⟨.LDX, .zp, some 3, false, .read, true⟩
  | 7 => ⟨.LAX, .zp, some 3, false, .read, false⟩
  | 8 => ⟨.TAY, .imp, some 2, false, .implied, true⟩
  | 9 => ⟨.LDA, .imm, some 2, false, .read, true⟩
  | 10 => ⟨.TAX, .imp, some 2, false, .implied, true⟩
  | 11 => ⟨.LXA, .imm, some 2, false, .read, false⟩
  | 12 => ⟨.LDY, .abs, some 4, false, .read, true⟩
  | 13 => ⟨.LDA, .abs, some 4, false, .read, true⟩
  | 14 => ⟨.LDX, .abs, some 4, false, .read, true⟩
  | _ => ⟨.LAX, .abs, some 4, false, .read, false⟩

/-- Row 0xBx of the map of R86; the last arm is column xF. -/
def tableRowB (column : Nat) : OpcodeEntry :=
  match column with
  | 0 => ⟨.BCS, .rel, some 2, false, .branch, true⟩
  | 1 => ⟨.LDA, .izy, some 5, true, .read, true⟩
  | 2 => ⟨.JAM, .imp, none, false, .jam, false⟩
  | 3 => ⟨.LAX, .izy, some 5, true, .read, false⟩
  | 4 => ⟨.LDY, .zpx, some 4, false, .read, true⟩
  | 5 => ⟨.LDA, .zpx, some 4, false, .read, true⟩
  | 6 => ⟨.LDX, .zpy, some 4, false, .read, true⟩
  | 7 => ⟨.LAX, .zpy, some 4, false, .read, false⟩
  | 8 => ⟨.CLV, .imp, some 2, false, .implied, true⟩
  | 9 => ⟨.LDA, .aby, some 4, true, .read, true⟩
  | 10 => ⟨.TSX, .imp, some 2, false, .implied, true⟩
  | 11 => ⟨.LAS, .aby, some 4, true, .read, false⟩
  | 12 => ⟨.LDY, .abx, some 4, true, .read, true⟩
  | 13 => ⟨.LDA, .abx, some 4, true, .read, true⟩
  | 14 => ⟨.LDX, .aby, some 4, true, .read, true⟩
  | _ => ⟨.LAX, .aby, some 4, true, .read, false⟩

/-- Row 0xCx of the map of R86; the last arm is column xF. -/
def tableRowC (column : Nat) : OpcodeEntry :=
  match column with
  | 0 => ⟨.CPY, .imm, some 2, false, .read, true⟩
  | 1 => ⟨.CMP, .izx, some 6, false, .read, true⟩
  | 2 => ⟨.NOP, .imm, some 2, false, .read, false⟩
  | 3 => ⟨.DCP, .izx, some 8, false, .modify, false⟩
  | 4 => ⟨.CPY, .zp, some 3, false, .read, true⟩
  | 5 => ⟨.CMP, .zp, some 3, false, .read, true⟩
  | 6 => ⟨.DEC, .zp, some 5, false, .modify, true⟩
  | 7 => ⟨.DCP, .zp, some 5, false, .modify, false⟩
  | 8 => ⟨.INY, .imp, some 2, false, .implied, true⟩
  | 9 => ⟨.CMP, .imm, some 2, false, .read, true⟩
  | 10 => ⟨.DEX, .imp, some 2, false, .implied, true⟩
  | 11 => ⟨.SBX, .imm, some 2, false, .read, false⟩
  | 12 => ⟨.CPY, .abs, some 4, false, .read, true⟩
  | 13 => ⟨.CMP, .abs, some 4, false, .read, true⟩
  | 14 => ⟨.DEC, .abs, some 6, false, .modify, true⟩
  | _ => ⟨.DCP, .abs, some 6, false, .modify, false⟩

/-- Row 0xDx of the map of R86; the last arm is column xF. -/
def tableRowD (column : Nat) : OpcodeEntry :=
  match column with
  | 0 => ⟨.BNE, .rel, some 2, false, .branch, true⟩
  | 1 => ⟨.CMP, .izy, some 5, true, .read, true⟩
  | 2 => ⟨.JAM, .imp, none, false, .jam, false⟩
  | 3 => ⟨.DCP, .izy, some 8, false, .modify, false⟩
  | 4 => ⟨.NOP, .zpx, some 4, false, .read, false⟩
  | 5 => ⟨.CMP, .zpx, some 4, false, .read, true⟩
  | 6 => ⟨.DEC, .zpx, some 6, false, .modify, true⟩
  | 7 => ⟨.DCP, .zpx, some 6, false, .modify, false⟩
  | 8 => ⟨.CLD, .imp, some 2, false, .implied, true⟩
  | 9 => ⟨.CMP, .aby, some 4, true, .read, true⟩
  | 10 => ⟨.NOP, .imp, some 2, false, .implied, false⟩
  | 11 => ⟨.DCP, .aby, some 7, false, .modify, false⟩
  | 12 => ⟨.NOP, .abx, some 4, true, .read, false⟩
  | 13 => ⟨.CMP, .abx, some 4, true, .read, true⟩
  | 14 => ⟨.DEC, .abx, some 7, false, .modify, true⟩
  | _ => ⟨.DCP, .abx, some 7, false, .modify, false⟩

/-- Row 0xEx of the map of R86; the last arm is column xF. -/
def tableRowE (column : Nat) : OpcodeEntry :=
  match column with
  | 0 => ⟨.CPX, .imm, some 2, false, .read, true⟩
  | 1 => ⟨.SBC, .izx, some 6, false, .read, true⟩
  | 2 => ⟨.NOP, .imm, some 2, false, .read, false⟩
  | 3 => ⟨.ISC, .izx, some 8, false, .modify, false⟩
  | 4 => ⟨.CPX, .zp, some 3, false, .read, true⟩
  | 5 => ⟨.SBC, .zp, some 3, false, .read, true⟩
  | 6 => ⟨.INC, .zp, some 5, false, .modify, true⟩
  | 7 => ⟨.ISC, .zp, some 5, false, .modify, false⟩
  | 8 => ⟨.INX, .imp, some 2, false, .implied, true⟩
  | 9 => ⟨.SBC, .imm, some 2, false, .read, true⟩
  | 10 => ⟨.NOP, .imp, some 2, false, .implied, true⟩
  | 11 => ⟨.USBC, .imm, some 2, false, .read, false⟩
  | 12 => ⟨.CPX, .abs, some 4, false, .read, true⟩
  | 13 => ⟨.SBC, .abs, some 4, false, .read, true⟩
  | 14 => ⟨.INC, .abs, some 6, false, .modify, true⟩
  | _ => ⟨.ISC, .abs, some 6, false, .modify, false⟩

/-- Row 0xFx of the map of R86; the last arm is column xF. -/
def tableRowF (column : Nat) : OpcodeEntry :=
  match column with
  | 0 => ⟨.BEQ, .rel, some 2, false, .branch, true⟩
  | 1 => ⟨.SBC, .izy, some 5, true, .read, true⟩
  | 2 => ⟨.JAM, .imp, none, false, .jam, false⟩
  | 3 => ⟨.ISC, .izy, some 8, false, .modify, false⟩
  | 4 => ⟨.NOP, .zpx, some 4, false, .read, false⟩
  | 5 => ⟨.SBC, .zpx, some 4, false, .read, true⟩
  | 6 => ⟨.INC, .zpx, some 6, false, .modify, true⟩
  | 7 => ⟨.ISC, .zpx, some 6, false, .modify, false⟩
  | 8 => ⟨.SED, .imp, some 2, false, .implied, true⟩
  | 9 => ⟨.SBC, .aby, some 4, true, .read, true⟩
  | 10 => ⟨.NOP, .imp, some 2, false, .implied, false⟩
  | 11 => ⟨.ISC, .aby, some 7, false, .modify, false⟩
  | 12 => ⟨.NOP, .abx, some 4, true, .read, false⟩
  | 13 => ⟨.SBC, .abx, some 4, true, .read, true⟩
  | 14 => ⟨.INC, .abx, some 7, false, .modify, true⟩
  | _ => ⟨.ISC, .abx, some 7, false, .modify, false⟩

/-- `OpcodeTable[opcode]` (R83): the map of R86, row by high nibble and column by low nibble. -/
def opcodeTable (opcode : Byte) : OpcodeEntry :=
  let column := opcode.toNat % 16
  match opcode.toNat / 16 with
  | 0 => tableRow0 column
  | 1 => tableRow1 column
  | 2 => tableRow2 column
  | 3 => tableRow3 column
  | 4 => tableRow4 column
  | 5 => tableRow5 column
  | 6 => tableRow6 column
  | 7 => tableRow7 column
  | 8 => tableRow8 column
  | 9 => tableRow9 column
  | 10 => tableRowA column
  | 11 => tableRowB column
  | 12 => tableRowC column
  | 13 => tableRowD column
  | 14 => tableRowE column
  | _ => tableRowF column

/-- The operand bytes the mode of an opcode takes (R84). -/
def operandBytes (opcode : Byte) : Nat := (opcodeTable opcode).mode.format.operandBytes

/-! ### The decoder -/

/-- Opcodes 0x00 to 0x0F with operand byte `b` and operand word `w`; the last arm is 0x0F. -/
def decodeRow0 (column : Nat) (b : Byte) (w : Addr) : Instr :=
  match column with
  | 0 => .brk
  | 1 => .oraIzx b
  | 2 => .jam02
  | 3 => .sloIzx b
  | 4 => .nopZp04 b
  | 5 => .oraZp b
  | 6 => .aslZp b
  | 7 => .sloZp b
  | 8 => .php
  | 9 => .oraImm b
  | 10 => .aslAcc
  | 11 => .anc0B b
  | 12 => .nopAbs0C w
  | 13 => .oraAbs w
  | 14 => .aslAbs w
  | _ => .sloAbs w

/-- Opcodes 0x10 to 0x1F with operand byte `b` and operand word `w`; the last arm is 0x1F. -/
def decodeRow1 (column : Nat) (b : Byte) (w : Addr) : Instr :=
  match column with
  | 0 => .bpl b
  | 1 => .oraIzy b
  | 2 => .jam12
  | 3 => .sloIzy b
  | 4 => .nopZpx14 b
  | 5 => .oraZpx b
  | 6 => .aslZpx b
  | 7 => .sloZpx b
  | 8 => .clc
  | 9 => .oraAby w
  | 10 => .nopImp1A
  | 11 => .sloAby w
  | 12 => .nopAbx1C w
  | 13 => .oraAbx w
  | 14 => .aslAbx w
  | _ => .sloAbx w

/-- Opcodes 0x20 to 0x2F with operand byte `b` and operand word `w`; the last arm is 0x2F. -/
def decodeRow2 (column : Nat) (b : Byte) (w : Addr) : Instr :=
  match column with
  | 0 => .jsr w
  | 1 => .andIzx b
  | 2 => .jam22
  | 3 => .rlaIzx b
  | 4 => .bitZp b
  | 5 => .andZp b
  | 6 => .rolZp b
  | 7 => .rlaZp b
  | 8 => .plp
  | 9 => .andImm b
  | 10 => .rolAcc
  | 11 => .anc2B b
  | 12 => .bitAbs w
  | 13 => .andAbs w
  | 14 => .rolAbs w
  | _ => .rlaAbs w

/-- Opcodes 0x30 to 0x3F with operand byte `b` and operand word `w`; the last arm is 0x3F. -/
def decodeRow3 (column : Nat) (b : Byte) (w : Addr) : Instr :=
  match column with
  | 0 => .bmi b
  | 1 => .andIzy b
  | 2 => .jam32
  | 3 => .rlaIzy b
  | 4 => .nopZpx34 b
  | 5 => .andZpx b
  | 6 => .rolZpx b
  | 7 => .rlaZpx b
  | 8 => .sec
  | 9 => .andAby w
  | 10 => .nopImp3A
  | 11 => .rlaAby w
  | 12 => .nopAbx3C w
  | 13 => .andAbx w
  | 14 => .rolAbx w
  | _ => .rlaAbx w

/-- Opcodes 0x40 to 0x4F with operand byte `b` and operand word `w`; the last arm is 0x4F. -/
def decodeRow4 (column : Nat) (b : Byte) (w : Addr) : Instr :=
  match column with
  | 0 => .rti
  | 1 => .eorIzx b
  | 2 => .jam42
  | 3 => .sreIzx b
  | 4 => .nopZp44 b
  | 5 => .eorZp b
  | 6 => .lsrZp b
  | 7 => .sreZp b
  | 8 => .pha
  | 9 => .eorImm b
  | 10 => .lsrAcc
  | 11 => .alr b
  | 12 => .jmpAbs w
  | 13 => .eorAbs w
  | 14 => .lsrAbs w
  | _ => .sreAbs w

/-- Opcodes 0x50 to 0x5F with operand byte `b` and operand word `w`; the last arm is 0x5F. -/
def decodeRow5 (column : Nat) (b : Byte) (w : Addr) : Instr :=
  match column with
  | 0 => .bvc b
  | 1 => .eorIzy b
  | 2 => .jam52
  | 3 => .sreIzy b
  | 4 => .nopZpx54 b
  | 5 => .eorZpx b
  | 6 => .lsrZpx b
  | 7 => .sreZpx b
  | 8 => .cli
  | 9 => .eorAby w
  | 10 => .nopImp5A
  | 11 => .sreAby w
  | 12 => .nopAbx5C w
  | 13 => .eorAbx w
  | 14 => .lsrAbx w
  | _ => .sreAbx w

/-- Opcodes 0x60 to 0x6F with operand byte `b` and operand word `w`; the last arm is 0x6F. -/
def decodeRow6 (column : Nat) (b : Byte) (w : Addr) : Instr :=
  match column with
  | 0 => .rts
  | 1 => .adcIzx b
  | 2 => .jam62
  | 3 => .rraIzx b
  | 4 => .nopZp64 b
  | 5 => .adcZp b
  | 6 => .rorZp b
  | 7 => .rraZp b
  | 8 => .pla
  | 9 => .adcImm b
  | 10 => .rorAcc
  | 11 => .arr b
  | 12 => .jmpInd w
  | 13 => .adcAbs w
  | 14 => .rorAbs w
  | _ => .rraAbs w

/-- Opcodes 0x70 to 0x7F with operand byte `b` and operand word `w`; the last arm is 0x7F. -/
def decodeRow7 (column : Nat) (b : Byte) (w : Addr) : Instr :=
  match column with
  | 0 => .bvs b
  | 1 => .adcIzy b
  | 2 => .jam72
  | 3 => .rraIzy b
  | 4 => .nopZpx74 b
  | 5 => .adcZpx b
  | 6 => .rorZpx b
  | 7 => .rraZpx b
  | 8 => .sei
  | 9 => .adcAby w
  | 10 => .nopImp7A
  | 11 => .rraAby w
  | 12 => .nopAbx7C w
  | 13 => .adcAbx w
  | 14 => .rorAbx w
  | _ => .rraAbx w

/-- Opcodes 0x80 to 0x8F with operand byte `b` and operand word `w`; the last arm is 0x8F. -/
def decodeRow8 (column : Nat) (b : Byte) (w : Addr) : Instr :=
  match column with
  | 0 => .nopImm80 b
  | 1 => .staIzx b
  | 2 => .nopImm82 b
  | 3 => .saxIzx b
  | 4 => .styZp b
  | 5 => .staZp b
  | 6 => .stxZp b
  | 7 => .saxZp b
  | 8 => .dey
  | 9 => .nopImm89 b
  | 10 => .txa
  | 11 => .ane b
  | 12 => .styAbs w
  | 13 => .staAbs w
  | 14 => .stxAbs w
  | _ => .saxAbs w

/-- Opcodes 0x90 to 0x9F with operand byte `b` and operand word `w`; the last arm is 0x9F. -/
def decodeRow9 (column : Nat) (b : Byte) (w : Addr) : Instr :=
  match column with
  | 0 => .bcc b
  | 1 => .staIzy b
  | 2 => .jam92
  | 3 => .shaIzy b
  | 4 => .styZpx b
  | 5 => .staZpx b
  | 6 => .stxZpy b
  | 7 => .saxZpy b
  | 8 => .tya
  | 9 => .staAby w
  | 10 => .txs
  | 11 => .tas w
  | 12 => .shy w
  | 13 => .staAbx w
  | 14 => .shx w
  | _ => .shaAby w

/-- Opcodes 0xA0 to 0xAF with operand byte `b` and operand word `w`; the last arm is 0xAF. -/
def decodeRowA (column : Nat) (b : Byte) (w : Addr) : Instr :=
  match column with
  | 0 => .ldyImm b
  | 1 => .ldaIzx b
  | 2 => .ldxImm b
  | 3 => .laxIzx b
  | 4 => .ldyZp b
  | 5 => .ldaZp b
  | 6 => .ldxZp b
  | 7 => .laxZp b
  | 8 => .tay
  | 9 => .ldaImm b
  | 10 => .tax
  | 11 => .lxa b
  | 12 => .ldyAbs w
  | 13 => .ldaAbs w
  | 14 => .ldxAbs w
  | _ => .laxAbs w

/-- Opcodes 0xB0 to 0xBF with operand byte `b` and operand word `w`; the last arm is 0xBF. -/
def decodeRowB (column : Nat) (b : Byte) (w : Addr) : Instr :=
  match column with
  | 0 => .bcs b
  | 1 => .ldaIzy b
  | 2 => .jamB2
  | 3 => .laxIzy b
  | 4 => .ldyZpx b
  | 5 => .ldaZpx b
  | 6 => .ldxZpy b
  | 7 => .laxZpy b
  | 8 => .clv
  | 9 => .ldaAby w
  | 10 => .tsx
  | 11 => .las w
  | 12 => .ldyAbx w
  | 13 => .ldaAbx w
  | 14 => .ldxAby w
  | _ => .laxAby w

/-- Opcodes 0xC0 to 0xCF with operand byte `b` and operand word `w`; the last arm is 0xCF. -/
def decodeRowC (column : Nat) (b : Byte) (w : Addr) : Instr :=
  match column with
  | 0 => .cpyImm b
  | 1 => .cmpIzx b
  | 2 => .nopImmC2 b
  | 3 => .dcpIzx b
  | 4 => .cpyZp b
  | 5 => .cmpZp b
  | 6 => .decZp b
  | 7 => .dcpZp b
  | 8 => .iny
  | 9 => .cmpImm b
  | 10 => .dex
  | 11 => .sbx b
  | 12 => .cpyAbs w
  | 13 => .cmpAbs w
  | 14 => .decAbs w
  | _ => .dcpAbs w

/-- Opcodes 0xD0 to 0xDF with operand byte `b` and operand word `w`; the last arm is 0xDF. -/
def decodeRowD (column : Nat) (b : Byte) (w : Addr) : Instr :=
  match column with
  | 0 => .bne b
  | 1 => .cmpIzy b
  | 2 => .jamD2
  | 3 => .dcpIzy b
  | 4 => .nopZpxD4 b
  | 5 => .cmpZpx b
  | 6 => .decZpx b
  | 7 => .dcpZpx b
  | 8 => .cld
  | 9 => .cmpAby w
  | 10 => .nopImpDA
  | 11 => .dcpAby w
  | 12 => .nopAbxDC w
  | 13 => .cmpAbx w
  | 14 => .decAbx w
  | _ => .dcpAbx w

/-- Opcodes 0xE0 to 0xEF with operand byte `b` and operand word `w`; the last arm is 0xEF. -/
def decodeRowE (column : Nat) (b : Byte) (w : Addr) : Instr :=
  match column with
  | 0 => .cpxImm b
  | 1 => .sbcIzx b
  | 2 => .nopImmE2 b
  | 3 => .iscIzx b
  | 4 => .cpxZp b
  | 5 => .sbcZp b
  | 6 => .incZp b
  | 7 => .iscZp b
  | 8 => .inx
  | 9 => .sbcImm b
  | 10 => .nop
  | 11 => .usbc b
  | 12 => .cpxAbs w
  | 13 => .sbcAbs w
  | 14 => .incAbs w
  | _ => .iscAbs w

/-- Opcodes 0xF0 to 0xFF with operand byte `b` and operand word `w`; the last arm is 0xFF. -/
def decodeRowF (column : Nat) (b : Byte) (w : Addr) : Instr :=
  match column with
  | 0 => .beq b
  | 1 => .sbcIzy b
  | 2 => .jamF2
  | 3 => .iscIzy b
  | 4 => .nopZpxF4 b
  | 5 => .sbcZpx b
  | 6 => .incZpx b
  | 7 => .iscZpx b
  | 8 => .sed
  | 9 => .sbcAby w
  | 10 => .nopImpFA
  | 11 => .iscAby w
  | 12 => .nopAbxFC w
  | 13 => .sbcAbx w
  | 14 => .incAbx w
  | _ => .iscAbx w

/-- The instruction of an opcode byte and the two bytes that follow it (R83, R85). Total: every opcode value is an
instruction (R89). A shorter instruction does not use the bytes past its own. -/
def decodeOpcode (opcode b1 b2 : Byte) : Instr :=
  let column := opcode.toNat % 16
  let b := b1
  let w := wordOf b2 b1
  match opcode.toNat / 16 with
  | 0 => decodeRow0 column b w
  | 1 => decodeRow1 column b w
  | 2 => decodeRow2 column b w
  | 3 => decodeRow3 column b w
  | 4 => decodeRow4 column b w
  | 5 => decodeRow5 column b w
  | 6 => decodeRow6 column b w
  | 7 => decodeRow7 column b w
  | 8 => decodeRow8 column b w
  | 9 => decodeRow9 column b w
  | 10 => decodeRowA column b w
  | 11 => decodeRowB column b w
  | 12 => decodeRowC column b w
  | 13 => decodeRowD column b w
  | 14 => decodeRowE column b w
  | _ => decodeRowF column b w

/-- Why a byte string is not an instruction: never because of its opcode (R89), only because it ends too early. -/
inductive DecodeError where
  /-- There is no opcode byte. -/
  | noOpcode
  /-- The operand bytes of `opcode` are not all there. -/
  | truncated (opcode : Byte)
  deriving DecidableEq, Repr

/-- What the decoder answers on a byte string. -/
inductive Decoded where
  /-- The instruction at the front, and the bytes after it. -/
  | instr (i : Instr) (rest : List Byte)
  | refused (e : DecodeError)
  deriving DecidableEq, Repr

/-- Read one instruction from the front of a byte string, in ascending address order (R56, R82). -/
def decode : List Byte → Decoded
  | [] => .refused .noOpcode
  | opcode :: rest =>
    match (opcodeTable opcode).mode.format, rest with
    | .F1, _ => .instr (decodeOpcode opcode 0 0) rest
    | .F2, b1 :: tail => .instr (decodeOpcode opcode b1 0) tail
    | .F3, b1 :: b2 :: tail => .instr (decodeOpcode opcode b1 b2) tail
    | .F2, [] => .refused (.truncated opcode)
    | .F3, [] => .refused (.truncated opcode)
    | .F3, [_] => .refused (.truncated opcode)

/-! ### Operands of a decoded instruction -/

/-- A memory operand: the nine modes that name a byte to read or write (R103 to R106, R108 to R110, R112, R113). -/
inductive MemOperand where
  | imm (v : Byte)
  | zp (z : Byte)
  | zpx (z : Byte)
  | zpy (z : Byte)
  | abs (w : Addr)
  | abx (w : Addr)
  | aby (w : Addr)
  | izx (z : Byte)
  | izy (z : Byte)
  deriving DecidableEq, Repr

/-- The operand of an instruction: none (R101), the accumulator (R102), a branch displacement (R107), an indirect jump's
pointer (R111), or a memory operand. The 16-bit word of `JMP` and `JSR` absolute is the operand word of mode `abs`. -/
inductive Operand where
  | imp
  | acc
  | rel (d : Byte)
  | ind (w : Addr)
  | mem (m : MemOperand)
  deriving DecidableEq, Repr

def MemOperand.mode : MemOperand → Mode
  | .imm _ => .imm
  | .zp _ => .zp
  | .zpx _ => .zpx
  | .zpy _ => .zpy
  | .abs _ => .abs
  | .abx _ => .abx
  | .aby _ => .aby
  | .izx _ => .izx
  | .izy _ => .izy

/-- The bytes of an instruction with this memory operand, its opcode included (R84). -/
def MemOperand.length (m : MemOperand) : Nat := 1 + m.mode.format.operandBytes

def Operand.mode : Operand → Mode
  | .imp => .imp
  | .acc => .acc
  | .rel _ => .rel
  | .ind _ => .ind
  | .mem m => m.mode

/-- The operand bytes in address order, the low byte of a word first (R55, R81). -/
def Operand.bytes : Operand → List Byte
  | .imp | .acc => []
  | .rel d => [d]
  | .mem (.imm v) => [v]
  | .mem (.zp z) | .mem (.zpx z) | .mem (.zpy z) | .mem (.izx z) | .mem (.izy z) => [z]
  | .ind w | .mem (.abs w) | .mem (.abx w) | .mem (.aby w) => [loByte w, hiByte w]

/-! ### The encoder -/

/-- The opcode byte of each instruction (R86). -/
def Instr.opcode : Instr → Byte
  | .oraIzx _ => 0x01
  | .sloIzx _ => 0x03
  | .nopZp04 _ => 0x04
  | .oraZp _ => 0x05
  | .aslZp _ => 0x06
  | .sloZp _ => 0x07
  | .oraImm _ => 0x09
  | .anc0B _ => 0x0B
  | .nopAbs0C _ => 0x0C
  | .oraAbs _ => 0x0D
  | .aslAbs _ => 0x0E
  | .sloAbs _ => 0x0F
  | .bpl _ => 0x10
  | .oraIzy _ => 0x11
  | .sloIzy _ => 0x13
  | .nopZpx14 _ => 0x14
  | .oraZpx _ => 0x15
  | .aslZpx _ => 0x16
  | .sloZpx _ => 0x17
  | .oraAby _ => 0x19
  | .sloAby _ => 0x1B
  | .nopAbx1C _ => 0x1C
  | .oraAbx _ => 0x1D
  | .aslAbx _ => 0x1E
  | .sloAbx _ => 0x1F
  | .jsr _ => 0x20
  | .andIzx _ => 0x21
  | .rlaIzx _ => 0x23
  | .bitZp _ => 0x24
  | .andZp _ => 0x25
  | .rolZp _ => 0x26
  | .rlaZp _ => 0x27
  | .andImm _ => 0x29
  | .anc2B _ => 0x2B
  | .bitAbs _ => 0x2C
  | .andAbs _ => 0x2D
  | .rolAbs _ => 0x2E
  | .rlaAbs _ => 0x2F
  | .bmi _ => 0x30
  | .andIzy _ => 0x31
  | .rlaIzy _ => 0x33
  | .nopZpx34 _ => 0x34
  | .andZpx _ => 0x35
  | .rolZpx _ => 0x36
  | .rlaZpx _ => 0x37
  | .andAby _ => 0x39
  | .rlaAby _ => 0x3B
  | .nopAbx3C _ => 0x3C
  | .andAbx _ => 0x3D
  | .rolAbx _ => 0x3E
  | .rlaAbx _ => 0x3F
  | .eorIzx _ => 0x41
  | .sreIzx _ => 0x43
  | .nopZp44 _ => 0x44
  | .eorZp _ => 0x45
  | .lsrZp _ => 0x46
  | .sreZp _ => 0x47
  | .eorImm _ => 0x49
  | .alr _ => 0x4B
  | .jmpAbs _ => 0x4C
  | .eorAbs _ => 0x4D
  | .lsrAbs _ => 0x4E
  | .sreAbs _ => 0x4F
  | .bvc _ => 0x50
  | .eorIzy _ => 0x51
  | .sreIzy _ => 0x53
  | .nopZpx54 _ => 0x54
  | .eorZpx _ => 0x55
  | .lsrZpx _ => 0x56
  | .sreZpx _ => 0x57
  | .eorAby _ => 0x59
  | .sreAby _ => 0x5B
  | .nopAbx5C _ => 0x5C
  | .eorAbx _ => 0x5D
  | .lsrAbx _ => 0x5E
  | .sreAbx _ => 0x5F
  | .adcIzx _ => 0x61
  | .rraIzx _ => 0x63
  | .nopZp64 _ => 0x64
  | .adcZp _ => 0x65
  | .rorZp _ => 0x66
  | .rraZp _ => 0x67
  | .adcImm _ => 0x69
  | .arr _ => 0x6B
  | .jmpInd _ => 0x6C
  | .adcAbs _ => 0x6D
  | .rorAbs _ => 0x6E
  | .rraAbs _ => 0x6F
  | .bvs _ => 0x70
  | .adcIzy _ => 0x71
  | .rraIzy _ => 0x73
  | .nopZpx74 _ => 0x74
  | .adcZpx _ => 0x75
  | .rorZpx _ => 0x76
  | .rraZpx _ => 0x77
  | .adcAby _ => 0x79
  | .rraAby _ => 0x7B
  | .nopAbx7C _ => 0x7C
  | .adcAbx _ => 0x7D
  | .rorAbx _ => 0x7E
  | .rraAbx _ => 0x7F
  | .nopImm80 _ => 0x80
  | .staIzx _ => 0x81
  | .nopImm82 _ => 0x82
  | .saxIzx _ => 0x83
  | .styZp _ => 0x84
  | .staZp _ => 0x85
  | .stxZp _ => 0x86
  | .saxZp _ => 0x87
  | .nopImm89 _ => 0x89
  | .ane _ => 0x8B
  | .styAbs _ => 0x8C
  | .staAbs _ => 0x8D
  | .stxAbs _ => 0x8E
  | .saxAbs _ => 0x8F
  | .bcc _ => 0x90
  | .staIzy _ => 0x91
  | .shaIzy _ => 0x93
  | .styZpx _ => 0x94
  | .staZpx _ => 0x95
  | .stxZpy _ => 0x96
  | .saxZpy _ => 0x97
  | .staAby _ => 0x99
  | .tas _ => 0x9B
  | .shy _ => 0x9C
  | .staAbx _ => 0x9D
  | .shx _ => 0x9E
  | .shaAby _ => 0x9F
  | .ldyImm _ => 0xA0
  | .ldaIzx _ => 0xA1
  | .ldxImm _ => 0xA2
  | .laxIzx _ => 0xA3
  | .ldyZp _ => 0xA4
  | .ldaZp _ => 0xA5
  | .ldxZp _ => 0xA6
  | .laxZp _ => 0xA7
  | .ldaImm _ => 0xA9
  | .lxa _ => 0xAB
  | .ldyAbs _ => 0xAC
  | .ldaAbs _ => 0xAD
  | .ldxAbs _ => 0xAE
  | .laxAbs _ => 0xAF
  | .bcs _ => 0xB0
  | .ldaIzy _ => 0xB1
  | .laxIzy _ => 0xB3
  | .ldyZpx _ => 0xB4
  | .ldaZpx _ => 0xB5
  | .ldxZpy _ => 0xB6
  | .laxZpy _ => 0xB7
  | .ldaAby _ => 0xB9
  | .las _ => 0xBB
  | .ldyAbx _ => 0xBC
  | .ldaAbx _ => 0xBD
  | .ldxAby _ => 0xBE
  | .laxAby _ => 0xBF
  | .cpyImm _ => 0xC0
  | .cmpIzx _ => 0xC1
  | .nopImmC2 _ => 0xC2
  | .dcpIzx _ => 0xC3
  | .cpyZp _ => 0xC4
  | .cmpZp _ => 0xC5
  | .decZp _ => 0xC6
  | .dcpZp _ => 0xC7
  | .cmpImm _ => 0xC9
  | .sbx _ => 0xCB
  | .cpyAbs _ => 0xCC
  | .cmpAbs _ => 0xCD
  | .decAbs _ => 0xCE
  | .dcpAbs _ => 0xCF
  | .bne _ => 0xD0
  | .cmpIzy _ => 0xD1
  | .dcpIzy _ => 0xD3
  | .nopZpxD4 _ => 0xD4
  | .cmpZpx _ => 0xD5
  | .decZpx _ => 0xD6
  | .dcpZpx _ => 0xD7
  | .cmpAby _ => 0xD9
  | .dcpAby _ => 0xDB
  | .nopAbxDC _ => 0xDC
  | .cmpAbx _ => 0xDD
  | .decAbx _ => 0xDE
  | .dcpAbx _ => 0xDF
  | .cpxImm _ => 0xE0
  | .sbcIzx _ => 0xE1
  | .nopImmE2 _ => 0xE2
  | .iscIzx _ => 0xE3
  | .cpxZp _ => 0xE4
  | .sbcZp _ => 0xE5
  | .incZp _ => 0xE6
  | .iscZp _ => 0xE7
  | .sbcImm _ => 0xE9
  | .usbc _ => 0xEB
  | .cpxAbs _ => 0xEC
  | .sbcAbs _ => 0xED
  | .incAbs _ => 0xEE
  | .iscAbs _ => 0xEF
  | .beq _ => 0xF0
  | .sbcIzy _ => 0xF1
  | .iscIzy _ => 0xF3
  | .nopZpxF4 _ => 0xF4
  | .sbcZpx _ => 0xF5
  | .incZpx _ => 0xF6
  | .iscZpx _ => 0xF7
  | .sbcAby _ => 0xF9
  | .iscAby _ => 0xFB
  | .nopAbxFC _ => 0xFC
  | .sbcAbx _ => 0xFD
  | .incAbx _ => 0xFE
  | .iscAbx _ => 0xFF
  | .brk => 0x00
  | .jam02 => 0x02
  | .php => 0x08
  | .aslAcc => 0x0A
  | .jam12 => 0x12
  | .clc => 0x18
  | .nopImp1A => 0x1A
  | .jam22 => 0x22
  | .plp => 0x28
  | .rolAcc => 0x2A
  | .jam32 => 0x32
  | .sec => 0x38
  | .nopImp3A => 0x3A
  | .rti => 0x40
  | .jam42 => 0x42
  | .pha => 0x48
  | .lsrAcc => 0x4A
  | .jam52 => 0x52
  | .cli => 0x58
  | .nopImp5A => 0x5A
  | .rts => 0x60
  | .jam62 => 0x62
  | .pla => 0x68
  | .rorAcc => 0x6A
  | .jam72 => 0x72
  | .sei => 0x78
  | .nopImp7A => 0x7A
  | .dey => 0x88
  | .txa => 0x8A
  | .jam92 => 0x92
  | .tya => 0x98
  | .txs => 0x9A
  | .tay => 0xA8
  | .tax => 0xAA
  | .jamB2 => 0xB2
  | .clv => 0xB8
  | .tsx => 0xBA
  | .iny => 0xC8
  | .dex => 0xCA
  | .jamD2 => 0xD2
  | .cld => 0xD8
  | .nopImpDA => 0xDA
  | .inx => 0xE8
  | .nop => 0xEA
  | .jamF2 => 0xF2
  | .sed => 0xF8
  | .nopImpFA => 0xFA

/-- The operand of each instruction (R85, R86). -/
def Instr.operand : Instr → Operand
  | .oraIzx z => .mem (.izx z)
  | .sloIzx z => .mem (.izx z)
  | .nopZp04 z => .mem (.zp z)
  | .oraZp z => .mem (.zp z)
  | .aslZp z => .mem (.zp z)
  | .sloZp z => .mem (.zp z)
  | .oraImm v => .mem (.imm v)
  | .anc0B v => .mem (.imm v)
  | .nopAbs0C w => .mem (.abs w)
  | .oraAbs w => .mem (.abs w)
  | .aslAbs w => .mem (.abs w)
  | .sloAbs w => .mem (.abs w)
  | .bpl d => .rel d
  | .oraIzy z => .mem (.izy z)
  | .sloIzy z => .mem (.izy z)
  | .nopZpx14 z => .mem (.zpx z)
  | .oraZpx z => .mem (.zpx z)
  | .aslZpx z => .mem (.zpx z)
  | .sloZpx z => .mem (.zpx z)
  | .oraAby w => .mem (.aby w)
  | .sloAby w => .mem (.aby w)
  | .nopAbx1C w => .mem (.abx w)
  | .oraAbx w => .mem (.abx w)
  | .aslAbx w => .mem (.abx w)
  | .sloAbx w => .mem (.abx w)
  | .jsr w => .mem (.abs w)
  | .andIzx z => .mem (.izx z)
  | .rlaIzx z => .mem (.izx z)
  | .bitZp z => .mem (.zp z)
  | .andZp z => .mem (.zp z)
  | .rolZp z => .mem (.zp z)
  | .rlaZp z => .mem (.zp z)
  | .andImm v => .mem (.imm v)
  | .anc2B v => .mem (.imm v)
  | .bitAbs w => .mem (.abs w)
  | .andAbs w => .mem (.abs w)
  | .rolAbs w => .mem (.abs w)
  | .rlaAbs w => .mem (.abs w)
  | .bmi d => .rel d
  | .andIzy z => .mem (.izy z)
  | .rlaIzy z => .mem (.izy z)
  | .nopZpx34 z => .mem (.zpx z)
  | .andZpx z => .mem (.zpx z)
  | .rolZpx z => .mem (.zpx z)
  | .rlaZpx z => .mem (.zpx z)
  | .andAby w => .mem (.aby w)
  | .rlaAby w => .mem (.aby w)
  | .nopAbx3C w => .mem (.abx w)
  | .andAbx w => .mem (.abx w)
  | .rolAbx w => .mem (.abx w)
  | .rlaAbx w => .mem (.abx w)
  | .eorIzx z => .mem (.izx z)
  | .sreIzx z => .mem (.izx z)
  | .nopZp44 z => .mem (.zp z)
  | .eorZp z => .mem (.zp z)
  | .lsrZp z => .mem (.zp z)
  | .sreZp z => .mem (.zp z)
  | .eorImm v => .mem (.imm v)
  | .alr v => .mem (.imm v)
  | .jmpAbs w => .mem (.abs w)
  | .eorAbs w => .mem (.abs w)
  | .lsrAbs w => .mem (.abs w)
  | .sreAbs w => .mem (.abs w)
  | .bvc d => .rel d
  | .eorIzy z => .mem (.izy z)
  | .sreIzy z => .mem (.izy z)
  | .nopZpx54 z => .mem (.zpx z)
  | .eorZpx z => .mem (.zpx z)
  | .lsrZpx z => .mem (.zpx z)
  | .sreZpx z => .mem (.zpx z)
  | .eorAby w => .mem (.aby w)
  | .sreAby w => .mem (.aby w)
  | .nopAbx5C w => .mem (.abx w)
  | .eorAbx w => .mem (.abx w)
  | .lsrAbx w => .mem (.abx w)
  | .sreAbx w => .mem (.abx w)
  | .adcIzx z => .mem (.izx z)
  | .rraIzx z => .mem (.izx z)
  | .nopZp64 z => .mem (.zp z)
  | .adcZp z => .mem (.zp z)
  | .rorZp z => .mem (.zp z)
  | .rraZp z => .mem (.zp z)
  | .adcImm v => .mem (.imm v)
  | .arr v => .mem (.imm v)
  | .jmpInd w => .ind w
  | .adcAbs w => .mem (.abs w)
  | .rorAbs w => .mem (.abs w)
  | .rraAbs w => .mem (.abs w)
  | .bvs d => .rel d
  | .adcIzy z => .mem (.izy z)
  | .rraIzy z => .mem (.izy z)
  | .nopZpx74 z => .mem (.zpx z)
  | .adcZpx z => .mem (.zpx z)
  | .rorZpx z => .mem (.zpx z)
  | .rraZpx z => .mem (.zpx z)
  | .adcAby w => .mem (.aby w)
  | .rraAby w => .mem (.aby w)
  | .nopAbx7C w => .mem (.abx w)
  | .adcAbx w => .mem (.abx w)
  | .rorAbx w => .mem (.abx w)
  | .rraAbx w => .mem (.abx w)
  | .nopImm80 v => .mem (.imm v)
  | .staIzx z => .mem (.izx z)
  | .nopImm82 v => .mem (.imm v)
  | .saxIzx z => .mem (.izx z)
  | .styZp z => .mem (.zp z)
  | .staZp z => .mem (.zp z)
  | .stxZp z => .mem (.zp z)
  | .saxZp z => .mem (.zp z)
  | .nopImm89 v => .mem (.imm v)
  | .ane v => .mem (.imm v)
  | .styAbs w => .mem (.abs w)
  | .staAbs w => .mem (.abs w)
  | .stxAbs w => .mem (.abs w)
  | .saxAbs w => .mem (.abs w)
  | .bcc d => .rel d
  | .staIzy z => .mem (.izy z)
  | .shaIzy z => .mem (.izy z)
  | .styZpx z => .mem (.zpx z)
  | .staZpx z => .mem (.zpx z)
  | .stxZpy z => .mem (.zpy z)
  | .saxZpy z => .mem (.zpy z)
  | .staAby w => .mem (.aby w)
  | .tas w => .mem (.aby w)
  | .shy w => .mem (.abx w)
  | .staAbx w => .mem (.abx w)
  | .shx w => .mem (.aby w)
  | .shaAby w => .mem (.aby w)
  | .ldyImm v => .mem (.imm v)
  | .ldaIzx z => .mem (.izx z)
  | .ldxImm v => .mem (.imm v)
  | .laxIzx z => .mem (.izx z)
  | .ldyZp z => .mem (.zp z)
  | .ldaZp z => .mem (.zp z)
  | .ldxZp z => .mem (.zp z)
  | .laxZp z => .mem (.zp z)
  | .ldaImm v => .mem (.imm v)
  | .lxa v => .mem (.imm v)
  | .ldyAbs w => .mem (.abs w)
  | .ldaAbs w => .mem (.abs w)
  | .ldxAbs w => .mem (.abs w)
  | .laxAbs w => .mem (.abs w)
  | .bcs d => .rel d
  | .ldaIzy z => .mem (.izy z)
  | .laxIzy z => .mem (.izy z)
  | .ldyZpx z => .mem (.zpx z)
  | .ldaZpx z => .mem (.zpx z)
  | .ldxZpy z => .mem (.zpy z)
  | .laxZpy z => .mem (.zpy z)
  | .ldaAby w => .mem (.aby w)
  | .las w => .mem (.aby w)
  | .ldyAbx w => .mem (.abx w)
  | .ldaAbx w => .mem (.abx w)
  | .ldxAby w => .mem (.aby w)
  | .laxAby w => .mem (.aby w)
  | .cpyImm v => .mem (.imm v)
  | .cmpIzx z => .mem (.izx z)
  | .nopImmC2 v => .mem (.imm v)
  | .dcpIzx z => .mem (.izx z)
  | .cpyZp z => .mem (.zp z)
  | .cmpZp z => .mem (.zp z)
  | .decZp z => .mem (.zp z)
  | .dcpZp z => .mem (.zp z)
  | .cmpImm v => .mem (.imm v)
  | .sbx v => .mem (.imm v)
  | .cpyAbs w => .mem (.abs w)
  | .cmpAbs w => .mem (.abs w)
  | .decAbs w => .mem (.abs w)
  | .dcpAbs w => .mem (.abs w)
  | .bne d => .rel d
  | .cmpIzy z => .mem (.izy z)
  | .dcpIzy z => .mem (.izy z)
  | .nopZpxD4 z => .mem (.zpx z)
  | .cmpZpx z => .mem (.zpx z)
  | .decZpx z => .mem (.zpx z)
  | .dcpZpx z => .mem (.zpx z)
  | .cmpAby w => .mem (.aby w)
  | .dcpAby w => .mem (.aby w)
  | .nopAbxDC w => .mem (.abx w)
  | .cmpAbx w => .mem (.abx w)
  | .decAbx w => .mem (.abx w)
  | .dcpAbx w => .mem (.abx w)
  | .cpxImm v => .mem (.imm v)
  | .sbcIzx z => .mem (.izx z)
  | .nopImmE2 v => .mem (.imm v)
  | .iscIzx z => .mem (.izx z)
  | .cpxZp z => .mem (.zp z)
  | .sbcZp z => .mem (.zp z)
  | .incZp z => .mem (.zp z)
  | .iscZp z => .mem (.zp z)
  | .sbcImm v => .mem (.imm v)
  | .usbc v => .mem (.imm v)
  | .cpxAbs w => .mem (.abs w)
  | .sbcAbs w => .mem (.abs w)
  | .incAbs w => .mem (.abs w)
  | .iscAbs w => .mem (.abs w)
  | .beq d => .rel d
  | .sbcIzy z => .mem (.izy z)
  | .iscIzy z => .mem (.izy z)
  | .nopZpxF4 z => .mem (.zpx z)
  | .sbcZpx z => .mem (.zpx z)
  | .incZpx z => .mem (.zpx z)
  | .iscZpx z => .mem (.zpx z)
  | .sbcAby w => .mem (.aby w)
  | .iscAby w => .mem (.aby w)
  | .nopAbxFC w => .mem (.abx w)
  | .sbcAbx w => .mem (.abx w)
  | .incAbx w => .mem (.abx w)
  | .iscAbx w => .mem (.abx w)
  | .brk => .imp
  | .jam02 => .imp
  | .php => .imp
  | .aslAcc => .acc
  | .jam12 => .imp
  | .clc => .imp
  | .nopImp1A => .imp
  | .jam22 => .imp
  | .plp => .imp
  | .rolAcc => .acc
  | .jam32 => .imp
  | .sec => .imp
  | .nopImp3A => .imp
  | .rti => .imp
  | .jam42 => .imp
  | .pha => .imp
  | .lsrAcc => .acc
  | .jam52 => .imp
  | .cli => .imp
  | .nopImp5A => .imp
  | .rts => .imp
  | .jam62 => .imp
  | .pla => .imp
  | .rorAcc => .acc
  | .jam72 => .imp
  | .sei => .imp
  | .nopImp7A => .imp
  | .dey => .imp
  | .txa => .imp
  | .jam92 => .imp
  | .tya => .imp
  | .txs => .imp
  | .tay => .imp
  | .tax => .imp
  | .jamB2 => .imp
  | .clv => .imp
  | .tsx => .imp
  | .iny => .imp
  | .dex => .imp
  | .jamD2 => .imp
  | .cld => .imp
  | .nopImpDA => .imp
  | .inx => .imp
  | .nop => .imp
  | .jamF2 => .imp
  | .sed => .imp
  | .nopImpFA => .imp

/-- The table record of an instruction (R83). -/
def Instr.entry (i : Instr) : OpcodeEntry := opcodeTable i.opcode

/-- The instruction's length in bytes (R84). BRK is 1 byte long in the table (R84, R222). -/
def Instr.length (i : Instr) : Nat := 1 + operandBytes i.opcode

/-- The bytes of an instruction: the opcode, then its operand bytes in address order (R81, R85). -/
def encode (i : Instr) : List Byte := i.opcode :: i.operand.bytes

/-! ### The host's table words -/

/-- The decoder's answer on the instruction whose bits are `w`: byte `k` of the instruction is bits `8k + 7` to `8k`, and every
bit at or above `nbits` is 0. -/
def decodeTableWord (nbits w : Nat) : Option Instr :=
  let bits := w % 2 ^ nbits
  match decode [BitVec.ofNat 8 bits, BitVec.ofNat 8 (bits / 256), BitVec.ofNat 8 (bits / 65536)] with
  | .instr i _ => some i
  | .refused _ => none

end Sys2Proof
end

