-- ==== Sys2Proof/Config.lean ====
section
/-! DEFINITION. The configuration record `Cfg` of spec/00_scope.md R7: what one machine fixes, and the constants the
spec leaves open. An open constant has no body, so that a theorem holds for every value of it. Its fields `POWERON` and `BUS` are
arguments of `powerOn` (`PowerOnDraw`; `State.bus` with the storage and the units behind it). -/

namespace Sys2Proof

/-- `VEC_NMI`: address of the low byte of the NMI vector (R7, R64, decision D1). -/
def Config.vecNmi : Addr := 0xFFFA

/-- `VEC_RESET`: address of the low byte of the Reset vector (R7, R64, decision D1). -/
def Config.vecReset : Addr := 0xFFFC

/-- `VEC_IRQ`: address of the low byte of the shared IRQ and BRK vector (R7, R64, decision D1). -/
def Config.vecIrq : Addr := 0xFFFE

/-- `RESET_SP_DELTA`: how much Reset subtracts from the stack pointer (R7, R310, decision D2). -/
def Config.resetSpDelta : Byte := 3

/-- `ANE_MAGIC`, the constant of opcode 0x8B: OPEN, any 8-bit value (R7, R260, decision D4; log entry 6). -/
opaque Config.aneMagic : Byte

/-- `LXA_MAGIC`, the constant of opcode 0xAB: OPEN, any 8-bit value (R7, R261, decision D4; log entry 6). -/
opaque Config.lxaMagic : Byte

/-- `JAM_CYCLES`, the count a step reports that halts the core or finds it halted: OPEN, any 32-bit value
(R7, R245, R302, decision D5; log entry 7). -/
opaque Config.jamCycles : CycleCount

/-- `BUS` where the host's map says `Place.device`: the byte the host's units answer at an address, in a state of theirs that a number
names: OPEN (R7, R53, decision D6; log entry 22). It gives no new state, so a read changes nothing (`BUS_READ_PURE`, decision D7). -/
opaque Config.deviceRead : Nat → Addr → Byte

/-- `BUS` where the host's map says `Place.device`: the state of the host's units after a write: OPEN (R7, R52, R53, decision D6;
log entry 22). -/
opaque Config.deviceWrite : Nat → Addr → Byte → Nat

end Sys2Proof
end

