-- ==== Sys2Proof/Machine/State.lean ====
section
/-! DEFINITION. The state of the CORE as plain data: the register file and status flags (spec/10_state.md R20 to R35),
the hidden state (R36), the cycle accumulator (R37), the outcome label of the last step (spec/60_exceptions.md R301) and
the memory behind the bus (spec/20_memory.md R50, R53); and that state right after reset (R42, R340). -/

namespace Sys2Proof.Machine

/-- The seven stored flags of the status register (R25). Bit 5 of the status byte is not stored: it reads as 1. -/
structure Flags where
  /-- Negative, bit 7. -/
  n : Bool
  /-- Overflow, bit 6. -/
  v : Bool
  /-- Break, bit 4: stored, seen and written by the host's status access only (R33). -/
  b : Bool
  /-- Decimal, bit 3: stored, without effect on any operation (R31). -/
  d : Bool
  /-- InterruptDisable, bit 2. -/
  i : Bool
  /-- Zero, bit 1. -/
  z : Bool
  /-- Carry, bit 0. -/
  c : Bool
  deriving DecidableEq, Repr

/-- The outcome label of a step or of Reset (R301). -/
inductive StepLabel where
  | executed
  | brk
  | nmi
  | irq
  | halted
  | reset
  deriving DecidableEq, Repr

/-- The storage behind the bus, 65536 cells (R50, R53, decision D6): the bytes that differ from what an unlisted cell reads as
(`Memory.unlisted`), at strictly rising numbers. `Memory.wf` states that canonical form. In a plain memory cell `a` is address `a`. -/
abbrev Memory := List Host.Cell

/-- What the host has behind a range of addresses, for one direction of access (R4, R50, R64, decision D6; log entry 22). -/
inductive Place where
  /-- Storage: the address at distance `k` from the start of its window is cell `start + k mod size` (size 0: `start + k`). Addresses that
  share a cell are mirrors of one another. -/
  | cells (start : Addr) (size : Nat)
  /-- No storage: a read gives `v`, a write is accepted and lost (what writes meet at a ROM; an unmapped range). -/
  | fixed (v : Byte)
  /-- A unit of the host, mapped I/O or a cartridge's own logic, whose behaviour is OPEN: `Config.deviceRead` and
  `Config.deviceWrite`. -/
  | device
  deriving DecidableEq, Repr

/-- One range of addresses, both ends included, of the host's map; what reads and what writes meet there may differ (a ROM). -/
structure Window where
  first : Addr
  last : Addr
  reads : Place
  writes : Place
  deriving DecidableEq, Repr

/-- The parameter `BUS` (R7, R53, decision D6; log entry 22): the host's map of the address space. The first window that holds an
address decides; an address in none is the plain memory's cell of its own number. The empty map is the plain memory of R53. One
device window over all addresses is any host with pure reads. -/
abbrev BusMap := List Window

/-- All the state the spec gives the machine; INVENTORY.md lists the rule of each field. -/
structure State where
  /-- Accumulator `A` (R20). -/
  a : Byte
  /-- Index register `X` (R21). -/
  x : Byte
  /-- Index register `Y` (R22). -/
  y : Byte
  /-- Stack pointer `S`, an offset into page 0x01 (R23). -/
  sp : Byte
  /-- Program counter `PC` (R24). -/
  pc : Addr
  /-- The stored flags of the status register (R25). -/
  flags : Flags
  /-- The core executed a JAM and executes nothing more until Reset (R36). -/
  halted : Bool
  /-- The level of the IRQ input (R36). -/
  irqLine : Bool
  /-- The level of the NMI input (R36). -/
  nmiLine : Bool
  /-- An NMI edge was seen and is not yet serviced (R36). -/
  nmiPending : Bool
  /-- The cycle accumulator: the count the last step returned (R37, R330). -/
  cycles : CycleCount
  /-- The outcome label the last step returned (R301; held here by log entry 8). -/
  outcome : StepLabel
  /-- The host's storage behind the bus (R50). -/
  mem : Memory
  /-- The parameter `BUS`: the host's map of the address space (R7, R53). No instruction changes it. -/
  bus : BusMap
  /-- The state of the host's units in the device windows of `bus`, as a number: plain data for any host (R7, R53; log entry 22). -/
  devices : Nat
  deriving DecidableEq, Repr

/-- The reasons the machine stops with a fault: NONE. No step of this hardware fails (spec/00_scope.md R14,
spec/60_exceptions.md R307), so the type has no constructor and no definition can answer a fault (log entry 19). -/
inductive Fault where
  deriving DecidableEq, Repr

/-- The reasons a step is refused. -/
inductive Refusal where
  /-- Raised by an arm of `exec` whose instruction has no meaning yet; safe. No arm of this model raises it. -/
  | notModelled (mnemonic : String)
  deriving DecidableEq, Repr

/-- `POWERON` (R7, R42, decision D3): the values the registers hold after power-on and before the first Reset. The spec
gives none, so a statement about `powerOn` holds for every draw. -/
structure PowerOnDraw where
  a : Byte
  x : Byte
  y : Byte
  sp : Byte
  pc : Addr
  flags : Flags
  deriving DecidableEq, Repr

/-- The machine right after reset: power-on with the draw of log entry 1 (DESIGN CHOICE: every drawn value is 0; unsafe)
over plain memory that lists nothing (log entries 2 and 3), followed by the one Reset sequence of R340 (R42, R310). -/
def State.reset : State where
  a := 0x00
  x := 0x00
  y := 0x00
  sp := 0x00 - Config.resetSpDelta
  pc := 0x0000
  flags := { n := false, v := false, b := false, d := false, i := true, z := false, c := false }
  halted := false
  irqLine := false
  nmiLine := false
  nmiPending := false
  cycles := 7
  outcome := .reset
  mem := []
  bus := []
  devices := 0

end Sys2Proof.Machine
end

