-- ==== Sys2Proof/Machine/Flags.lean ====
section
/-! DEFINITION. The flag computer and the arithmetic and shift primitives: the status byte (spec/10_state.md R26 to R33),
`SetNZ` (R28), `AddWithCarry` and `Compare` (spec/42_arith_logic.md R150, R151), the four one-bit shifts
(spec/43_shift_incdec.md R170). -/

namespace Sys2Proof.Machine

/-- The status register read as a byte, `P = {N, V, 1, B, D, I, Z, C}` (R26). -/
def Flags.toByte (f : Flags) : Byte :=
  BitVec.ofBool f.n ++ BitVec.ofBool f.v ++ 1#1 ++ BitVec.ofBool f.b ++ BitVec.ofBool f.d ++ BitVec.ofBool f.i
    ++ BitVec.ofBool f.z ++ BitVec.ofBool f.c

/-- The host's write of the status byte: seven bits are stored, bit 5 is ignored (R27). -/
def Flags.ofByte (p : Byte) : Flags where
  n := p.getLsbD 7
  v := p.getLsbD 6
  b := p.getLsbD 4
  d := p.getLsbD 3
  i := p.getLsbD 2
  z := p.getLsbD 1
  c := p.getLsbD 0

/-- The status byte a push writes: bit 5 is 1 and bit 4 is forced, 1 for BRK and PHP, 0 for IRQ and NMI, whatever the
stored `B` holds (R33, R211, R222, R320). -/
def pushedStatus (f : Flags) (breakBit : Bool) : Byte := ({ f with b := breakBit } : Flags).toByte

/-- The flags after PLP or RTI pulls `p`: bits 5 and 4 are ignored and the stored `B` is kept (R33, R213, R223). -/
def Flags.pulled (p : Byte) (f : Flags) : Flags := { Flags.ofByte p with b := f.b }

/-- `SetNZ(v)` (R28). -/
def Flags.setNZ (v : Byte) (f : Flags) : Flags := { f with n := v.msb, z := v == 0 }

/-- What `AddWithCarry` returns: the result, the carry out and the overflow (R150). -/
structure AddResult where
  sum : Byte
  carry : Bool
  overflow : Bool
  deriving DecidableEq, Repr

/-- `AddWithCarry(a, m, c)` (R150). It never reads the Decimal flag. -/
def addWithCarry (a m : Byte) (c : Bool) : AddResult :=
  let t := a.toNat + m.toNat + c.toNat
  let r := BitVec.ofNat 8 t
  { sum := r, carry := decide (t > 0xFF), overflow := a.msb == m.msb && r.msb != a.msb }

/-- The subtraction `a - m - (1 - c)`, an addition of the complement of `m` (R150, R153). -/
def subWithBorrow (a m : Byte) (c : Bool) : AddResult := addWithCarry a (m ^^^ 0xFF) c

/-- The flags ADC, SBC and the opcodes built on them write: `N V Z C` (R152, R153). -/
def Flags.setArith (r : AddResult) (f : Flags) : Flags :=
  { f.setNZ r.sum with v := r.overflow, c := r.carry }

/-- The flags `Compare(r, m)` writes: `N Z C`, without a borrow in (R151). -/
def Flags.compare (r m : Byte) (f : Flags) : Flags := { f.setNZ (r - m) with c := decide (m.toNat ≤ r.toNat) }

/-- The flags a shift writes: `C` is the bit shifted out, `N` and `Z` come from the result (R170). -/
def Flags.setShift (out : Bool) (r : Byte) (f : Flags) : Flags := { f.setNZ r with c := out }

/-- `Asl(v)` (R170). The bit shifted out is `v[7]`. -/
def aslByte (v : Byte) : Byte := BitVec.ofNat 8 (v.toNat * 2)

/-- `Lsr(v)` (R170). The bit shifted out is `v[0]`. -/
def lsrByte (v : Byte) : Byte := BitVec.ofNat 8 (v.toNat / 2)

/-- `Rol(v, C)` (R170). The bit shifted out is `v[7]`. -/
def rolByte (v : Byte) (c : Bool) : Byte := BitVec.ofNat 8 (v.toNat * 2 % 256 + c.toNat)

/-- `Ror(v, C)` (R170). The bit shifted out is `v[0]`. -/
def rorByte (v : Byte) (c : Bool) : Byte := BitVec.ofNat 8 (v.toNat / 2 + 128 * c.toNat)

/-- The bit a left shift moves out, `v[7]` (R170). -/
def outLeft (v : Byte) : Bool := v.getLsbD 7

/-- The bit a right shift moves out, `v[0]` (R170). -/
def outRight (v : Byte) : Bool := v.getLsbD 0

end Sys2Proof.Machine
end

