-- ==== Sys2Proof/Machine/Ops.lean ====
section
/-! DEFINITION. The named operations over memory and registers: storage in canonical form and the bus (spec/20_memory.md R50 to
R53), byte order (R55), the stack (R57, R58), taking a trap and returning from one (spec/60_exceptions.md R320, R323), the
Reset sequence and power-on (R310, spec/70_reset_and_hazards.md R340), and how an instruction retires (R331). -/

namespace Sys2Proof.Machine

/-- What every meaning and `step` answers. -/
abbrev Result := Host.Outcome State Fault Refusal

/-! ### Memory -/

/-- What an address that is not listed reads as. DESIGN CHOICE (log entry 2, unsafe): the spec leaves the content of memory
that nothing has written to the host. -/
def Memory.unlisted : Byte := 0x00

/-- The canonical form of memory: addresses below 65536, strictly rising, no entry equal to `Memory.unlisted`. -/
def Memory.wf : Memory → Bool
  | [] => true
  | cell :: rest =>
    decide (cell.1 < 65536) && cell.2 != Memory.unlisted && rest.all (fun later => decide (cell.1 < later.1)) && Memory.wf rest

/-- The byte of a cell: `MemRead` on plain memory (R51, R53). -/
def Memory.read : Memory → Nat → Byte
  | [], _ => Memory.unlisted
  | (k, v) :: rest, a => if k = a then v else Memory.read rest a

/-- Memory without an entry for address `a`. -/
def Memory.erase : Memory → Nat → Memory
  | [], _ => []
  | (k, v) :: rest, a => if k = a then Memory.erase rest a else (k, v) :: Memory.erase rest a

/-- Memory with an entry `(a, v)` put before the first higher address. -/
def Memory.insert : Memory → Nat → Byte → Memory
  | [], a, v => [(a, v)]
  | (k, w) :: rest, a, v => if a < k then (a, v) :: (k, w) :: rest else (k, w) :: Memory.insert rest a v

/-- A store to a cell: `MemWrite` on plain memory (R52, R53). Writing what an unlisted address reads as leaves no entry. -/
def Memory.write (m : Memory) (a : Nat) (v : Byte) : Memory :=
  if v = Memory.unlisted then Memory.erase m a else Memory.insert (Memory.erase m a) a v

/-! ### The bus -/

/-- What one access meets: a cell of storage, a fixed byte, or the host's units. -/
inductive Target where
  | cell (c : Addr)
  | fixed (v : Byte)
  | device
  deriving DecidableEq, Repr

/-- What an access at distance `offset` from the start of a window meets (R50; log entry 22). -/
def Place.target (offset : Nat) : Place → Target
  | .cells start size => .cell (start + BitVec.ofNat 16 (offset % size))
  | .fixed v => .fixed v
  | .device => .device

/-- What an access at `a` meets under a map, `side` picking its direction: every address is answered, the CORE placing no condition on
it (R51, R52; log entry 22). -/
def BusMap.target (side : Window → Place) : BusMap → Addr → Target
  | [], a => .cell a
  | w :: rest, a =>
    if w.first ≤ a ∧ a ≤ w.last then (side w).target (a - w.first).toNat else BusMap.target side rest a

/-- At `a` the map is plain memory, for both directions: the address is its own cell (R53). -/
abbrev BusMap.plainAt (bus : BusMap) (a : Addr) : Prop :=
  bus.target Window.reads a = .cell a ∧ bus.target Window.writes a = .cell a

/-- A write that meets `written` can change what a read that meets `read` gives: both meet one cell, or both the host's units. -/
def Target.reaches (written read : Target) : Bool :=
  match written, read with
  | .cell c, .cell d => c == d
  | .device, .device => true
  | _, _ => false

/-- A write at `written` can change what a read at `read` gives: in plain memory, the same address; under a map, a mirror too. -/
def BusMap.reaches (bus : BusMap) (written read : Addr) : Bool :=
  (bus.target Window.writes written).reaches (bus.target Window.reads read)

/-- `MemRead(a, 1)` (R51, R53): the byte the host gives, read at once from the host's present state. It changes nothing (R54). -/
def State.readMem (s : State) (a : Addr) : Byte :=
  match s.bus.target Window.reads a with
  | .cell c => Memory.read s.mem c.toNat
  | .fixed v => v
  | .device => Config.deviceRead s.devices a

/-- The storage after `MemWrite(a, 1, v)` (R52). -/
def State.cellsAfter (s : State) (a : Addr) (v : Byte) : Memory :=
  match s.bus.target Window.writes a with
  | .cell c => Memory.write s.mem c.toNat v
  | _ => s.mem

/-- The host's units after `MemWrite(a, 1, v)` (R52). -/
def State.devicesAfter (s : State) (a : Addr) (v : Byte) : Nat :=
  match s.bus.target Window.writes a with
  | .device => Config.deviceWrite s.devices a v
  | _ => s.devices

/-- `MemWrite(a, 1, v)` (R52, R53): performed at once; what it does is the host's business. -/
def State.writeMem (s : State) (a : Addr) (v : Byte) : State :=
  { s with mem := s.cellsAfter a v, devices := s.devicesAfter a v }

/-- A vector at `a`: low byte at `a`, high byte at `a + 1` (R55, R60). -/
def State.readVector (s : State) (a : Addr) : Addr := wordOf (s.readMem (a + 1)) (s.readMem a)

/-! ### Register writes -/

def State.setA (v : Byte) (s : State) : State := { s with a := v }
def State.setX (v : Byte) (s : State) : State := { s with x := v }
def State.setY (v : Byte) (s : State) : State := { s with y := v }
def State.setSp (v : Byte) (s : State) : State := { s with sp := v }
def State.setPc (v : Addr) (s : State) : State := { s with pc := v }
def State.setFlags (f : Flags) (s : State) : State := { s with flags := f }

/-- `SetNZ(v)` on the status register (R28). -/
def State.setNZ (v : Byte) (s : State) : State := s.setFlags (s.flags.setNZ v)

/-! ### The stack -/

/-- The stack address `{0x01, S}` (R23). -/
def stackAddr (sp : Byte) : Addr := wordOf 0x01 sp

/-- `Push(v)`: write at `{0x01, S}`, then decrement `S` modulo 256 (R57). -/
def State.push (v : Byte) (s : State) : State := (s.writeMem (stackAddr s.sp) v).setSp (s.sp - 1)

/-- Push a 16-bit address, high byte first (R201, R320). -/
def State.pushAddr (w : Addr) (s : State) : State := (s.push (hiByte w)).push (loByte w)

/-- The byte `Pull()` returns: `S` is incremented first (R58, conflict C1). -/
def State.pullByte (s : State) : Byte := s.readMem (stackAddr (s.sp + 1))

/-- The state `Pull()` leaves (R58). -/
def State.pulled (s : State) : State := s.setSp (s.sp + 1)

/-! ### Retiring an instruction -/

/-- The end of an `Executed` step: `PC` moves past the instruction's `length` bytes (R82) and the step reports its cycle
count and label (R300, R331). -/
def State.retire (length : Nat) (cycles : Nat) (s : State) : State :=
  { s with pc := s.pc + BitVec.ofNat 16 length, cycles := BitVec.ofNat 32 cycles, outcome := .executed }

/-- The end of an `Executed` step that transfers control to `target` (R203). -/
def State.retireAt (target : Addr) (cycles : Nat) (s : State) : State :=
  { s with pc := target, cycles := BitVec.ofNat 32 cycles, outcome := .executed }

/-- The extra cycle of an indexed access: `1 if entry.page_penalty and crossed` (R115, R331). -/
def extraCycle (pagePenalty crossed : Bool) : Nat := if pagePenalty && crossed then 1 else 0

/-! ### Traps -/

/-- Taking a trap, the one sequence behind NMI, IRQ and BRK (R222, R320, R321): push the high byte and then the low byte of
the return address, push the status with bit 4 forced to `breakBit`, set `I`, and load `PC` from the vector. No other
register or flag changes (R322). -/
def State.enterTrap (returnAddr : Addr) (breakBit : Bool) (vector : Addr) (label : StepLabel) (s : State) : State :=
  let framed := (s.pushAddr returnAddr).push (pushedStatus s.flags breakBit)
  let masked := framed.setFlags { framed.flags with i := true }
  { masked with pc := masked.readVector vector, cycles := 7, outcome := label }

/-- Returning from a trap (R223, R323): pull the status, ignoring bits 5 and 4, then the low and the high byte of the
address, and resume exactly there. -/
def State.returnFromTrap (s : State) : State :=
  let status := s.pullByte
  let s1 := s.pulled.setFlags (s.flags.pulled status)
  let low := s1.pullByte
  let s2 := s1.pulled
  let high := s2.pullByte
  s2.pulled.retireAt (wordOf high low) 6

/-! ### Reset and power-on -/

/-- The Reset sequence (R310): nothing is written to the bus and nothing is pushed; `nmi_line` and `irq_line` are the
host's and stay (R42, decision D9). -/
def State.resetSequence (s : State) : State :=
  { s with
    sp := s.sp - Config.resetSpDelta
    flags := { s.flags with i := true }
    halted := false
    nmiPending := false
    pc := s.readVector Config.vecReset
    cycles := 7
    outcome := .reset }

/-- Power-on, the source's `new(bus)` (R340, R42): the drawn registers, the inputs not asserted, then one Reset sequence over the host's
bus: its map, the state of its units, its storage. -/
def powerOn (draw : PowerOnDraw) (bus : BusMap) (devices : Nat) (mem : Memory) : State :=
  State.resetSequence
    { a := draw.a, x := draw.x, y := draw.y, sp := draw.sp, pc := draw.pc, flags := draw.flags
      halted := false, irqLine := false, nmiLine := false, nmiPending := false
      cycles := 0, outcome := .reset, mem := mem, bus := bus, devices := devices }

/-! ### Fetch -/

/-- The instruction at `PC`: the opcode byte and the operand bytes its mode asks for, in ascending address order modulo
65536 (R40, R56, R82, R83). Reading past a shorter instruction is not observable, since reads are pure (R54; log entry 10). -/
def State.fetchInstr (s : State) : Instr :=
  decodeOpcode (s.readMem s.pc) (s.readMem (s.pc + 1)) (s.readMem (s.pc + 2))

end Sys2Proof.Machine
end

