-- ==== Sys2Proof/Machine/Operands.lean ====
section
/-! DEFINITION. The addressing-mode resolver (spec/40_addressing_modes.md R100 to R119) and the three ways an instruction
uses a resolved memory operand: read, write and read-modify-write class (R116 to R118). -/

namespace Sys2Proof.Machine

/-- What `Resolve` returns for a memory operand: the effective address, whether an indexed access crossed a page, and the
address before indexing (R100, R114), which for a mode other than `abx`, `aby`, `izy` is the model's choice (`direct`, log entry 23). -/
structure Resolved where
  ea : Addr
  crossed : Bool
  base : Addr
  deriving DecidableEq, Repr

/-- The zero-page address `{0x00, z}` (R104). -/
def zeroPage (z : Byte) : Addr := wordOf 0x00 z

/-- The little-endian word at zero-page byte `z`, whose second byte wraps inside the zero page (R60, R112, R113). -/
def State.readZeroPageWord (s : State) (z : Byte) : Addr :=
  wordOf (s.readMem (zeroPage (z + 1))) (s.readMem (zeroPage z))

/-- An address that no 16-bit index add takes part in: it never crosses a page (R114). Its `base` is the effective address itself, in modes
`zpx`, `zpy` and `izx` that of after indexing. DESIGN CHOICE (log entry 23, safe): the spec names a base address for `abx`, `aby` and
`izy` only (R16, R100), and nothing reads this one. -/
def direct (ea : Addr) : Resolved := { ea := ea, crossed := false, base := ea }

/-- A 16-bit base plus a zero-extended index, modulo 65536; a page is crossed iff the high byte changed (R109, R110, R113,
R114). -/
def indexed (base : Addr) (index : Byte) : Resolved :=
  let ea := base + index.setWidth 16
  { ea := ea, crossed := hiByte ea != hiByte base, base := base }

/-- `Resolve(mode, cls)` (R100, R103 to R113). The class does not change the address. `s.pc` is the address of the opcode. -/
def resolve (m : MemOperand) (s : State) : Resolved :=
  match m with
  | .imm _ => direct (s.pc + 1)
  | .zp z => direct (zeroPage z)
  | .zpx z => direct (zeroPage (z + s.x))
  | .zpy z => direct (zeroPage (z + s.y))
  | .abs w => direct w
  | .abx w => indexed w s.x
  | .aby w => indexed w s.y
  | .izx z => direct (s.readZeroPageWord (z + s.x))
  | .izy z => indexed (s.readZeroPageWord z) s.y

/-- The operand `M` of a read or read-modify-write: an immediate is the operand byte itself (R103, R85), any other mode reads
memory at the effective address (R116, R118). -/
def operandByte (m : MemOperand) (s : State) : Byte :=
  match m with
  | .imm v => v
  | _ => s.readMem (resolve m s).ea

/-- The target of a branch: the address of the next instruction plus the sign-extended displacement (R107). -/
def branchTarget (d : Byte) (s : State) : Addr := s.pc + 2 + d.signExtend 16

/-- The target of an indirect jump: the high byte is read from the page of the pointer (R111). -/
def indirectTarget (w : Addr) (s : State) : Addr :=
  wordOf (s.readMem (wordOf (hiByte w) (loByte w + 1))) (s.readMem w)

/-- Read class (R116): `effect` gets the operand byte. -/
def readRule (m : MemOperand) (base : Nat) (pagePenalty : Bool) (effect : Byte → State → State) (s : State) : Result :=
  .next ((effect (operandByte m s) s).retire m.length (base + extraCycle pagePenalty (resolve m s).crossed))

/-- Write class (R117): the store does not read its target. -/
def writeRule (m : MemOperand) (base : Nat) (value : Byte) (s : State) : Result :=
  .next ((s.writeMem (resolve m s).ea value).retire m.length base)

/-- Read-modify-write class (R118, R181): `change` gives the byte written back; `effect` gets the old and the new byte. -/
def modifyRule (m : MemOperand) (base : Nat) (change : Byte → Byte) (effect : Byte → Byte → State → State) (s : State) :
    Result :=
  let old := operandByte m s
  let new := change old
  .next ((effect old new (s.writeMem (resolve m s).ea new)).retire m.length base)

end Sys2Proof.Machine
end

