-- ==== Sys2Proof/Machine/LoadStore.lean ====
section
/-! DEFINITION. Loads, stores and register transfers (spec/41_load_store_transfer.md R130 to R142). -/

namespace Sys2Proof.Machine

/-- An implied instruction of one byte: `after` is the state with its effect (R101, R130). -/
def impliedRule (cycles : Nat) (after : State) : Result := .next (after.retire 1 cycles)

/-- LDA's effect (R131). -/
def loadA (m : Byte) (s : State) : State := (s.setA m).setNZ m

/-- LDX's effect (R132). -/
def loadX (m : Byte) (s : State) : State := (s.setX m).setNZ m

/-- LDY's effect (R133). -/
def loadY (m : Byte) (s : State) : State := (s.setY m).setNZ m

/-! #### LDA (R131) -/

/-- `A9`: LDA imm (R131). -/
def execLdaImm (v : Byte) (s : State) : Result := readRule (.imm v) 2 false loadA s
/-- `A5`: LDA zp (R131). -/
def execLdaZp (z : Byte) (s : State) : Result := readRule (.zp z) 3 false loadA s
/-- `B5`: LDA zpx (R131). -/
def execLdaZpx (z : Byte) (s : State) : Result := readRule (.zpx z) 4 false loadA s
/-- `AD`: LDA abs (R131). -/
def execLdaAbs (w : Addr) (s : State) : Result := readRule (.abs w) 4 false loadA s
/-- `BD`: LDA abx (R131). -/
def execLdaAbx (w : Addr) (s : State) : Result := readRule (.abx w) 4 true loadA s
/-- `B9`: LDA aby (R131). -/
def execLdaAby (w : Addr) (s : State) : Result := readRule (.aby w) 4 true loadA s
/-- `A1`: LDA izx (R131). -/
def execLdaIzx (z : Byte) (s : State) : Result := readRule (.izx z) 6 false loadA s
/-- `B1`: LDA izy (R131). -/
def execLdaIzy (z : Byte) (s : State) : Result := readRule (.izy z) 5 true loadA s

/-! #### LDX (R132) -/

/-- `A2`: LDX imm (R132). -/
def execLdxImm (v : Byte) (s : State) : Result := readRule (.imm v) 2 false loadX s
/-- `A6`: LDX zp (R132). -/
def execLdxZp (z : Byte) (s : State) : Result := readRule (.zp z) 3 false loadX s
/-- `B6`: LDX zpy (R132). -/
def execLdxZpy (z : Byte) (s : State) : Result := readRule (.zpy z) 4 false loadX s
/-- `AE`: LDX abs (R132). -/
def execLdxAbs (w : Addr) (s : State) : Result := readRule (.abs w) 4 false loadX s
/-- `BE`: LDX aby (R132). -/
def execLdxAby (w : Addr) (s : State) : Result := readRule (.aby w) 4 true loadX s

/-! #### LDY (R133) -/

/-- `A0`: LDY imm (R133). -/
def execLdyImm (v : Byte) (s : State) : Result := readRule (.imm v) 2 false loadY s
/-- `A4`: LDY zp (R133). -/
def execLdyZp (z : Byte) (s : State) : Result := readRule (.zp z) 3 false loadY s
/-- `B4`: LDY zpx (R133). -/
def execLdyZpx (z : Byte) (s : State) : Result := readRule (.zpx z) 4 false loadY s
/-- `AC`: LDY abs (R133). -/
def execLdyAbs (w : Addr) (s : State) : Result := readRule (.abs w) 4 false loadY s
/-- `BC`: LDY abx (R133). -/
def execLdyAbx (w : Addr) (s : State) : Result := readRule (.abx w) 4 true loadY s

/-! #### STA (R134) -/

/-- `85`: STA zp (R134). -/
def execStaZp (z : Byte) (s : State) : Result := writeRule (.zp z) 3 s.a s
/-- `95`: STA zpx (R134). -/
def execStaZpx (z : Byte) (s : State) : Result := writeRule (.zpx z) 4 s.a s
/-- `8D`: STA abs (R134). -/
def execStaAbs (w : Addr) (s : State) : Result := writeRule (.abs w) 4 s.a s
/-- `9D`: STA abx (R134). -/
def execStaAbx (w : Addr) (s : State) : Result := writeRule (.abx w) 5 s.a s
/-- `99`: STA aby (R134). -/
def execStaAby (w : Addr) (s : State) : Result := writeRule (.aby w) 5 s.a s
/-- `81`: STA izx (R134). -/
def execStaIzx (z : Byte) (s : State) : Result := writeRule (.izx z) 6 s.a s
/-- `91`: STA izy (R134). -/
def execStaIzy (z : Byte) (s : State) : Result := writeRule (.izy z) 6 s.a s

/-! #### STX (R135) -/

/-- `86`: STX zp (R135). -/
def execStxZp (z : Byte) (s : State) : Result := writeRule (.zp z) 3 s.x s
/-- `96`: STX zpy (R135). -/
def execStxZpy (z : Byte) (s : State) : Result := writeRule (.zpy z) 4 s.x s
/-- `8E`: STX abs (R135). -/
def execStxAbs (w : Addr) (s : State) : Result := writeRule (.abs w) 4 s.x s

/-! #### STY (R136) -/

/-- `84`: STY zp (R136). -/
def execStyZp (z : Byte) (s : State) : Result := writeRule (.zp z) 3 s.y s
/-- `94`: STY zpx (R136). -/
def execStyZpx (z : Byte) (s : State) : Result := writeRule (.zpx z) 4 s.y s
/-- `8C`: STY abs (R136). -/
def execStyAbs (w : Addr) (s : State) : Result := writeRule (.abs w) 4 s.y s

/-! #### TAX (R137) -/

/-- `AA`: TAX imp (R137). -/
def execTax (s : State) : Result := impliedRule 2 ((s.setX s.a).setNZ s.a)

/-! #### TAY (R138) -/

/-- `A8`: TAY imp (R138). -/
def execTay (s : State) : Result := impliedRule 2 ((s.setY s.a).setNZ s.a)

/-! #### TXA (R139) -/

/-- `8A`: TXA imp (R139). -/
def execTxa (s : State) : Result := impliedRule 2 ((s.setA s.x).setNZ s.x)

/-! #### TYA (R140) -/

/-- `98`: TYA imp (R140). -/
def execTya (s : State) : Result := impliedRule 2 ((s.setA s.y).setNZ s.y)

/-! #### TSX (R141) -/

/-- `BA`: TSX imp (R141). -/
def execTsx (s : State) : Result := impliedRule 2 ((s.setX s.sp).setNZ s.sp)

/-! #### TXS (R142) -/

/-- `9A`: TXS imp (R142). -/
def execTxs (s : State) : Result := impliedRule 2 (s.setSp s.x)

end Sys2Proof.Machine
end

