-- ==== Sys2Proof/Machine/Arith.lean ====
section
/-! DEFINITION. Arithmetic, logic, compare and bit test (spec/42_arith_logic.md R150 to R160). -/

namespace Sys2Proof.Machine

/-- Put the result of an addition or subtraction in `A` and write `N V Z C` (R152, R153). -/
def State.setSum (r : AddResult) (s : State) : State := (s.setA r.sum).setFlags (s.flags.setArith r)

/-- ADC's effect (R152). -/
def adcEffect (m : Byte) (s : State) : State := s.setSum (addWithCarry s.a m s.flags.c)

/-- SBC's effect (R153). -/
def sbcEffect (m : Byte) (s : State) : State := s.setSum (subWithBorrow s.a m s.flags.c)

/-- AND's effect (R154). -/
def andEffect (m : Byte) (s : State) : State := (s.setA (s.a &&& m)).setNZ (s.a &&& m)

/-- ORA's effect (R155). -/
def oraEffect (m : Byte) (s : State) : State := (s.setA (s.a ||| m)).setNZ (s.a ||| m)

/-- EOR's effect (R156). -/
def eorEffect (m : Byte) (s : State) : State := (s.setA (s.a ^^^ m)).setNZ (s.a ^^^ m)

/-- CMP's effect (R157). -/
def cmpEffect (m : Byte) (s : State) : State := s.setFlags (s.flags.compare s.a m)

/-- CPX's effect (R158). -/
def cpxEffect (m : Byte) (s : State) : State := s.setFlags (s.flags.compare s.x m)

/-- CPY's effect (R159). -/
def cpyEffect (m : Byte) (s : State) : State := s.setFlags (s.flags.compare s.y m)

/-- BIT's effect: `N` and `V` are copies of bits 7 and 6 of the operand (R160). -/
def bitEffect (m : Byte) (s : State) : State :=
  s.setFlags { s.flags with z := s.a &&& m == 0, n := m.getLsbD 7, v := m.getLsbD 6 }

/-! #### ADC (R152) -/

/-- `69`: ADC imm (R152). -/
def execAdcImm (v : Byte) (s : State) : Result := readRule (.imm v) 2 false adcEffect s
/-- `65`: ADC zp (R152). -/
def execAdcZp (z : Byte) (s : State) : Result := readRule (.zp z) 3 false adcEffect s
/-- `75`: ADC zpx (R152). -/
def execAdcZpx (z : Byte) (s : State) : Result := readRule (.zpx z) 4 false adcEffect s
/-- `6D`: ADC abs (R152). -/
def execAdcAbs (w : Addr) (s : State) : Result := readRule (.abs w) 4 false adcEffect s
/-- `7D`: ADC abx (R152). -/
def execAdcAbx (w : Addr) (s : State) : Result := readRule (.abx w) 4 true adcEffect s
/-- `79`: ADC aby (R152). -/
def execAdcAby (w : Addr) (s : State) : Result := readRule (.aby w) 4 true adcEffect s
/-- `61`: ADC izx (R152). -/
def execAdcIzx (z : Byte) (s : State) : Result := readRule (.izx z) 6 false adcEffect s
/-- `71`: ADC izy (R152). -/
def execAdcIzy (z : Byte) (s : State) : Result := readRule (.izy z) 5 true adcEffect s

/-! #### SBC (R153) -/

/-- `E9`: SBC imm (R153). -/
def execSbcImm (v : Byte) (s : State) : Result := readRule (.imm v) 2 false sbcEffect s
/-- `E5`: SBC zp (R153). -/
def execSbcZp (z : Byte) (s : State) : Result := readRule (.zp z) 3 false sbcEffect s
/-- `F5`: SBC zpx (R153). -/
def execSbcZpx (z : Byte) (s : State) : Result := readRule (.zpx z) 4 false sbcEffect s
/-- `ED`: SBC abs (R153). -/
def execSbcAbs (w : Addr) (s : State) : Result := readRule (.abs w) 4 false sbcEffect s
/-- `FD`: SBC abx (R153). -/
def execSbcAbx (w : Addr) (s : State) : Result := readRule (.abx w) 4 true sbcEffect s
/-- `F9`: SBC aby (R153). -/
def execSbcAby (w : Addr) (s : State) : Result := readRule (.aby w) 4 true sbcEffect s
/-- `E1`: SBC izx (R153). -/
def execSbcIzx (z : Byte) (s : State) : Result := readRule (.izx z) 6 false sbcEffect s
/-- `F1`: SBC izy (R153). -/
def execSbcIzy (z : Byte) (s : State) : Result := readRule (.izy z) 5 true sbcEffect s

/-! #### AND (R154) -/

/-- `29`: AND imm (R154). -/
def execAndImm (v : Byte) (s : State) : Result := readRule (.imm v) 2 false andEffect s
/-- `25`: AND zp (R154). -/
def execAndZp (z : Byte) (s : State) : Result := readRule (.zp z) 3 false andEffect s
/-- `35`: AND zpx (R154). -/
def execAndZpx (z : Byte) (s : State) : Result := readRule (.zpx z) 4 false andEffect s
/-- `2D`: AND abs (R154). -/
def execAndAbs (w : Addr) (s : State) : Result := readRule (.abs w) 4 false andEffect s
/-- `3D`: AND abx (R154). -/
def execAndAbx (w : Addr) (s : State) : Result := readRule (.abx w) 4 true andEffect s
/-- `39`: AND aby (R154). -/
def execAndAby (w : Addr) (s : State) : Result := readRule (.aby w) 4 true andEffect s
/-- `21`: AND izx (R154). -/
def execAndIzx (z : Byte) (s : State) : Result := readRule (.izx z) 6 false andEffect s
/-- `31`: AND izy (R154). -/
def execAndIzy (z : Byte) (s : State) : Result := readRule (.izy z) 5 true andEffect s

/-! #### ORA (R155) -/

/-- `09`: ORA imm (R155). -/
def execOraImm (v : Byte) (s : State) : Result := readRule (.imm v) 2 false oraEffect s
/-- `05`: ORA zp (R155). -/
def execOraZp (z : Byte) (s : State) : Result := readRule (.zp z) 3 false oraEffect s
/-- `15`: ORA zpx (R155). -/
def execOraZpx (z : Byte) (s : State) : Result := readRule (.zpx z) 4 false oraEffect s
/-- `0D`: ORA abs (R155). -/
def execOraAbs (w : Addr) (s : State) : Result := readRule (.abs w) 4 false oraEffect s
/-- `1D`: ORA abx (R155). -/
def execOraAbx (w : Addr) (s : State) : Result := readRule (.abx w) 4 true oraEffect s
/-- `19`: ORA aby (R155). -/
def execOraAby (w : Addr) (s : State) : Result := readRule (.aby w) 4 true oraEffect s
/-- `01`: ORA izx (R155). -/
def execOraIzx (z : Byte) (s : State) : Result := readRule (.izx z) 6 false oraEffect s
/-- `11`: ORA izy (R155). -/
def execOraIzy (z : Byte) (s : State) : Result := readRule (.izy z) 5 true oraEffect s

/-! #### EOR (R156) -/

/-- `49`: EOR imm (R156). -/
def execEorImm (v : Byte) (s : State) : Result := readRule (.imm v) 2 false eorEffect s
/-- `45`: EOR zp (R156). -/
def execEorZp (z : Byte) (s : State) : Result := readRule (.zp z) 3 false eorEffect s
/-- `55`: EOR zpx (R156). -/
def execEorZpx (z : Byte) (s : State) : Result := readRule (.zpx z) 4 false eorEffect s
/-- `4D`: EOR abs (R156). -/
def execEorAbs (w : Addr) (s : State) : Result := readRule (.abs w) 4 false eorEffect s
/-- `5D`: EOR abx (R156). -/
def execEorAbx (w : Addr) (s : State) : Result := readRule (.abx w) 4 true eorEffect s
/-- `59`: EOR aby (R156). -/
def execEorAby (w : Addr) (s : State) : Result := readRule (.aby w) 4 true eorEffect s
/-- `41`: EOR izx (R156). -/
def execEorIzx (z : Byte) (s : State) : Result := readRule (.izx z) 6 false eorEffect s
/-- `51`: EOR izy (R156). -/
def execEorIzy (z : Byte) (s : State) : Result := readRule (.izy z) 5 true eorEffect s

/-! #### CMP (R157) -/

/-- `C9`: CMP imm (R157). -/
def execCmpImm (v : Byte) (s : State) : Result := readRule (.imm v) 2 false cmpEffect s
/-- `C5`: CMP zp (R157). -/
def execCmpZp (z : Byte) (s : State) : Result := readRule (.zp z) 3 false cmpEffect s
/-- `D5`: CMP zpx (R157). -/
def execCmpZpx (z : Byte) (s : State) : Result := readRule (.zpx z) 4 false cmpEffect s
/-- `CD`: CMP abs (R157). -/
def execCmpAbs (w : Addr) (s : State) : Result := readRule (.abs w) 4 false cmpEffect s
/-- `DD`: CMP abx (R157). -/
def execCmpAbx (w : Addr) (s : State) : Result := readRule (.abx w) 4 true cmpEffect s
/-- `D9`: CMP aby (R157). -/
def execCmpAby (w : Addr) (s : State) : Result := readRule (.aby w) 4 true cmpEffect s
/-- `C1`: CMP izx (R157). -/
def execCmpIzx (z : Byte) (s : State) : Result := readRule (.izx z) 6 false cmpEffect s
/-- `D1`: CMP izy (R157). -/
def execCmpIzy (z : Byte) (s : State) : Result := readRule (.izy z) 5 true cmpEffect s

/-! #### CPX (R158) -/

/-- `E0`: CPX imm (R158). -/
def execCpxImm (v : Byte) (s : State) : Result := readRule (.imm v) 2 false cpxEffect s
/-- `E4`: CPX zp (R158). -/
def execCpxZp (z : Byte) (s : State) : Result := readRule (.zp z) 3 false cpxEffect s
/-- `EC`: CPX abs (R158). -/
def execCpxAbs (w : Addr) (s : State) : Result := readRule (.abs w) 4 false cpxEffect s

/-! #### CPY (R159) -/

/-- `C0`: CPY imm (R159). -/
def execCpyImm (v : Byte) (s : State) : Result := readRule (.imm v) 2 false cpyEffect s
/-- `C4`: CPY zp (R159). -/
def execCpyZp (z : Byte) (s : State) : Result := readRule (.zp z) 3 false cpyEffect s
/-- `CC`: CPY abs (R159). -/
def execCpyAbs (w : Addr) (s : State) : Result := readRule (.abs w) 4 false cpyEffect s

/-! #### BIT (R160) -/

/-- `24`: BIT zp (R160). -/
def execBitZp (z : Byte) (s : State) : Result := readRule (.zp z) 3 false bitEffect s
/-- `2C`: BIT abs (R160). -/
def execBitAbs (w : Addr) (s : State) : Result := readRule (.abs w) 4 false bitEffect s

end Sys2Proof.Machine
end

