-- ==== Sys2Proof/Machine/Shift.lean ====
section
/-! DEFINITION. Shifts, rotates, increments and decrements (spec/43_shift_incdec.md R170 to R181). -/

namespace Sys2Proof.Machine

/-- The accumulator form of a shift: `effect` gets the old and the new value (R102, R171 to R174). -/
def accumulatorRule (new : Byte) (effect : Byte → Byte → State → State) (s : State) : Result :=
  .next ((effect s.a new (s.setA new)).retire 1 2)

/-- The flags ASL writes (R171). -/
def aslEffect (old new : Byte) (s : State) : State := s.setFlags (s.flags.setShift (outLeft old) new)

/-- The flags LSR writes (R172). -/
def lsrEffect (old new : Byte) (s : State) : State := s.setFlags (s.flags.setShift (outRight old) new)

/-- The flags ROL writes (R173). -/
def rolEffect (old new : Byte) (s : State) : State := s.setFlags (s.flags.setShift (outLeft old) new)

/-- The flags ROR writes (R174). -/
def rorEffect (old new : Byte) (s : State) : State := s.setFlags (s.flags.setShift (outRight old) new)

/-- The flags INC and DEC write (R175, R176). -/
def incDecEffect (_old new : Byte) (s : State) : State := s.setNZ new

/-! #### ASL (R171) -/

/-- `0A`: ASL acc (R171). -/
def execAslAcc (s : State) : Result := accumulatorRule (aslByte s.a) aslEffect s
/-- `06`: ASL zp (R171). -/
def execAslZp (z : Byte) (s : State) : Result := modifyRule (.zp z) 5 aslByte aslEffect s
/-- `16`: ASL zpx (R171). -/
def execAslZpx (z : Byte) (s : State) : Result := modifyRule (.zpx z) 6 aslByte aslEffect s
/-- `0E`: ASL abs (R171). -/
def execAslAbs (w : Addr) (s : State) : Result := modifyRule (.abs w) 6 aslByte aslEffect s
/-- `1E`: ASL abx (R171). -/
def execAslAbx (w : Addr) (s : State) : Result := modifyRule (.abx w) 7 aslByte aslEffect s

/-! #### LSR (R172) -/

/-- `4A`: LSR acc (R172). -/
def execLsrAcc (s : State) : Result := accumulatorRule (lsrByte s.a) lsrEffect s
/-- `46`: LSR zp (R172). -/
def execLsrZp (z : Byte) (s : State) : Result := modifyRule (.zp z) 5 lsrByte lsrEffect s
/-- `56`: LSR zpx (R172). -/
def execLsrZpx (z : Byte) (s : State) : Result := modifyRule (.zpx z) 6 lsrByte lsrEffect s
/-- `4E`: LSR abs (R172). -/
def execLsrAbs (w : Addr) (s : State) : Result := modifyRule (.abs w) 6 lsrByte lsrEffect s
/-- `5E`: LSR abx (R172). -/
def execLsrAbx (w : Addr) (s : State) : Result := modifyRule (.abx w) 7 lsrByte lsrEffect s

/-! #### ROL (R173) -/

/-- `2A`: ROL acc (R173). -/
def execRolAcc (s : State) : Result := accumulatorRule (rolByte s.a s.flags.c) rolEffect s
/-- `26`: ROL zp (R173). -/
def execRolZp (z : Byte) (s : State) : Result := modifyRule (.zp z) 5 (fun m => rolByte m s.flags.c) rolEffect s
/-- `36`: ROL zpx (R173). -/
def execRolZpx (z : Byte) (s : State) : Result := modifyRule (.zpx z) 6 (fun m => rolByte m s.flags.c) rolEffect s
/-- `2E`: ROL abs (R173). -/
def execRolAbs (w : Addr) (s : State) : Result := modifyRule (.abs w) 6 (fun m => rolByte m s.flags.c) rolEffect s
/-- `3E`: ROL abx (R173). -/
def execRolAbx (w : Addr) (s : State) : Result := modifyRule (.abx w) 7 (fun m => rolByte m s.flags.c) rolEffect s

/-! #### ROR (R174) -/

/-- `6A`: ROR acc (R174). -/
def execRorAcc (s : State) : Result := accumulatorRule (rorByte s.a s.flags.c) rorEffect s
/-- `66`: ROR zp (R174). -/
def execRorZp (z : Byte) (s : State) : Result := modifyRule (.zp z) 5 (fun m => rorByte m s.flags.c) rorEffect s
/-- `76`: ROR zpx (R174). -/
def execRorZpx (z : Byte) (s : State) : Result := modifyRule (.zpx z) 6 (fun m => rorByte m s.flags.c) rorEffect s
/-- `6E`: ROR abs (R174). -/
def execRorAbs (w : Addr) (s : State) : Result := modifyRule (.abs w) 6 (fun m => rorByte m s.flags.c) rorEffect s
/-- `7E`: ROR abx (R174). -/
def execRorAbx (w : Addr) (s : State) : Result := modifyRule (.abx w) 7 (fun m => rorByte m s.flags.c) rorEffect s

/-! #### INC (R175) -/

/-- `E6`: INC zp (R175). -/
def execIncZp (z : Byte) (s : State) : Result := modifyRule (.zp z) 5 (· + 1) incDecEffect s
/-- `F6`: INC zpx (R175). -/
def execIncZpx (z : Byte) (s : State) : Result := modifyRule (.zpx z) 6 (· + 1) incDecEffect s
/-- `EE`: INC abs (R175). -/
def execIncAbs (w : Addr) (s : State) : Result := modifyRule (.abs w) 6 (· + 1) incDecEffect s
/-- `FE`: INC abx (R175). -/
def execIncAbx (w : Addr) (s : State) : Result := modifyRule (.abx w) 7 (· + 1) incDecEffect s

/-! #### DEC (R176) -/

/-- `C6`: DEC zp (R176). -/
def execDecZp (z : Byte) (s : State) : Result := modifyRule (.zp z) 5 (· - 1) incDecEffect s
/-- `D6`: DEC zpx (R176). -/
def execDecZpx (z : Byte) (s : State) : Result := modifyRule (.zpx z) 6 (· - 1) incDecEffect s
/-- `CE`: DEC abs (R176). -/
def execDecAbs (w : Addr) (s : State) : Result := modifyRule (.abs w) 6 (· - 1) incDecEffect s
/-- `DE`: DEC abx (R176). -/
def execDecAbx (w : Addr) (s : State) : Result := modifyRule (.abx w) 7 (· - 1) incDecEffect s

/-! #### INX (R177) -/

/-- `E8`: INX imp (R177). -/
def execInx (s : State) : Result := impliedRule 2 ((s.setX (s.x + 1)).setNZ (s.x + 1))

/-! #### INY (R178) -/

/-- `C8`: INY imp (R178). -/
def execIny (s : State) : Result := impliedRule 2 ((s.setY (s.y + 1)).setNZ (s.y + 1))

/-! #### DEX (R179) -/

/-- `CA`: DEX imp (R179). -/
def execDex (s : State) : Result := impliedRule 2 ((s.setX (s.x - 1)).setNZ (s.x - 1))

/-! #### DEY (R180) -/

/-- `88`: DEY imp (R180). -/
def execDey (s : State) : Result := impliedRule 2 ((s.setY (s.y - 1)).setNZ (s.y - 1))

end Sys2Proof.Machine
end

