-- ==== Sys2Proof/Machine/Control.lean ====
section
/-! DEFINITION. Branches, jumps, subroutine call and return (spec/44_control_flow.md R190 to R202). -/

namespace Sys2Proof.Machine

/-- The common rule of the eight branches (R190): 2 cycles not taken, 3 taken inside the page of the next instruction, 4 taken
into another page. -/
def branchRule (taken : Bool) (d : Byte) (s : State) : Result :=
  let next := s.pc + 2
  let target := branchTarget d s
  if taken then .next (s.retireAt target (if hiByte target != hiByte next then 4 else 3))
  else .next (s.retireAt next 2)

/-- JSR (R201): the address of the instruction's last byte is pushed, and the high operand byte is read from memory after the
two pushes, so a push that lands on it is what is read (log entry 9). -/
def jsrRule (w : Addr) (s : State) : Result :=
  let last := s.pc + 2
  let pushed := s.pushAddr last
  .next (pushed.retireAt (wordOf (pushed.readMem last) (loByte w)) 6)

/-! #### BCC (R191) -/

/-- `90`: BCC rel (R191). -/
def execBcc (d : Byte) (s : State) : Result := branchRule (!s.flags.c) d s

/-! #### BCS (R192) -/

/-- `B0`: BCS rel (R192). -/
def execBcs (d : Byte) (s : State) : Result := branchRule (s.flags.c) d s

/-! #### BEQ (R193) -/

/-- `F0`: BEQ rel (R193). -/
def execBeq (d : Byte) (s : State) : Result := branchRule (s.flags.z) d s

/-! #### BNE (R194) -/

/-- `D0`: BNE rel (R194). -/
def execBne (d : Byte) (s : State) : Result := branchRule (!s.flags.z) d s

/-! #### BMI (R195) -/

/-- `30`: BMI rel (R195). -/
def execBmi (d : Byte) (s : State) : Result := branchRule (s.flags.n) d s

/-! #### BPL (R196) -/

/-- `10`: BPL rel (R196). -/
def execBpl (d : Byte) (s : State) : Result := branchRule (!s.flags.n) d s

/-! #### BVC (R197) -/

/-- `50`: BVC rel (R197). -/
def execBvc (d : Byte) (s : State) : Result := branchRule (!s.flags.v) d s

/-! #### BVS (R198) -/

/-- `70`: BVS rel (R198). -/
def execBvs (d : Byte) (s : State) : Result := branchRule (s.flags.v) d s

/-! #### JMP (R199, R200) -/

/-- `4C`: JMP abs (R199). -/
def execJmpAbs (w : Addr) (s : State) : Result := .next (s.retireAt w 3)
/-- `6C`: JMP ind (R200). -/
def execJmpInd (w : Addr) (s : State) : Result := .next (s.retireAt (indirectTarget w s) 5)

/-! #### JSR (R201) -/

/-- `20`: JSR abs (R201). -/
def execJsr (w : Addr) (s : State) : Result := jsrRule w s

/-! #### RTS (R202) -/

/-- `60`: RTS imp (R202). -/
def execRts (s : State) : Result := .next (s.pulled.pulled.retireAt (wordOf s.pulled.pullByte s.pullByte + 1) 6)

end Sys2Proof.Machine
end

