-- ==== Sys2Proof/Machine/System.lean ====
section
/-! DEFINITION. Stack, flag and system instructions (spec/45_stack_flags_system.md R210 to R223). -/

namespace Sys2Proof.Machine

/-! #### PHA (R210) -/

/-- `48`: PHA imp (R210). -/
def execPha (s : State) : Result := impliedRule 3 (s.push s.a)

/-! #### PHP (R211) -/

/-- `08`: PHP imp (R211). -/
def execPhp (s : State) : Result := impliedRule 3 (s.push (pushedStatus s.flags true))

/-! #### PLA (R212) -/

/-- `68`: PLA imp (R212). -/
def execPla (s : State) : Result := impliedRule 4 ((s.pulled.setA s.pullByte).setNZ s.pullByte)

/-! #### PLP (R213) -/

/-- `28`: PLP imp (R213). -/
def execPlp (s : State) : Result := impliedRule 4 (s.pulled.setFlags (s.flags.pulled s.pullByte))

/-! #### CLC (R214) -/

/-- `18`: CLC imp (R214). -/
def execClc (s : State) : Result := impliedRule 2 (s.setFlags { s.flags with c := false })

/-! #### SEC (R215) -/

/-- `38`: SEC imp (R215). -/
def execSec (s : State) : Result := impliedRule 2 (s.setFlags { s.flags with c := true })

/-! #### CLI (R216) -/

/-- `58`: CLI imp (R216). -/
def execCli (s : State) : Result := impliedRule 2 (s.setFlags { s.flags with i := false })

/-! #### SEI (R217) -/

/-- `78`: SEI imp (R217). -/
def execSei (s : State) : Result := impliedRule 2 (s.setFlags { s.flags with i := true })

/-! #### CLV (R218) -/

/-- `B8`: CLV imp (R218). -/
def execClv (s : State) : Result := impliedRule 2 (s.setFlags { s.flags with v := false })

/-! #### CLD (R219) -/

/-- `D8`: CLD imp (R219). -/
def execCld (s : State) : Result := impliedRule 2 (s.setFlags { s.flags with d := false })

/-! #### SED (R220) -/

/-- `F8`: SED imp (R220). -/
def execSed (s : State) : Result := impliedRule 2 (s.setFlags { s.flags with d := true })

/-! #### NOP (R221) -/

/-- `EA`: NOP imp (R221). -/
def execNop (s : State) : Result := impliedRule 2 s

/-! #### BRK (R222) -/

/-- `00`: BRK imp (R222). -/
def execBrk (s : State) : Result := .next (s.enterTrap (s.pc + 2) true Config.vecIrq .brk)

/-! #### RTI (R223) -/

/-- `40`: RTI imp (R223). -/
def execRti (s : State) : Result := .next s.returnFromTrap

end Sys2Proof.Machine
end

