-- ==== Sys2Proof/Machine/Undocumented.lean ====
section
/-! DEFINITION. The undocumented opcodes (spec/46_illegal.md R240 to R266): NOP variants, JAM, the stable combined operations
and the unstable ones. -/

namespace Sys2Proof.Machine

/-- A NOP with an operand reads it and discards it (R242 to R244). -/
def nopEffect (_m : Byte) (s : State) : State := s

/-- JAM (R245): `PC` is left one past the opcode, nothing else changes, and the step's outcome is `Halted`. -/
def jamRule (s : State) : Result :=
  .next { s with pc := s.pc + 1, halted := true, cycles := Config.jamCycles, outcome := .halted }

/-- SLO after its write: `A` or the shifted byte (R246). -/
def sloEffect (old new : Byte) (s : State) : State :=
  (s.setA (s.a ||| new)).setFlags (s.flags.setShift (outLeft old) (s.a ||| new))

/-- RLA after its write: `A` and the rotated byte (R247). -/
def rlaEffect (old new : Byte) (s : State) : State :=
  (s.setA (s.a &&& new)).setFlags (s.flags.setShift (outLeft old) (s.a &&& new))

/-- SRE after its write: `A` exclusive-or the shifted byte (R248). -/
def sreEffect (old new : Byte) (s : State) : State :=
  (s.setA (s.a ^^^ new)).setFlags (s.flags.setShift (outRight old) (s.a ^^^ new))

/-- RRA after its write: `A` plus the rotated byte, the carry in being the bit the rotate moved out (R249). -/
def rraEffect (old new : Byte) (s : State) : State := s.setSum (addWithCarry s.a new (outRight old))

/-- DCP after its write: compare `A` with the decremented byte (R252). -/
def dcpEffect (_old new : Byte) (s : State) : State := s.setFlags (s.flags.compare s.a new)

/-- ISC after its write: `A` minus the incremented byte (R253). -/
def iscEffect (_old new : Byte) (s : State) : State := s.setSum (subWithBorrow s.a new s.flags.c)

/-- LAX's effect (R251). -/
def laxEffect (m : Byte) (s : State) : State := ((s.setA m).setX m).setNZ m

/-- ANC's effect: the carry copies bit 7 of the result (R254). -/
def ancEffect (m : Byte) (s : State) : State :=
  (s.setA (s.a &&& m)).setFlags (s.flags.setShift (outLeft (s.a &&& m)) (s.a &&& m))

/-- ALR's effect (R255). -/
def alrEffect (m : Byte) (s : State) : State :=
  let t := s.a &&& m
  (s.setA (lsrByte t)).setFlags (s.flags.setShift (outRight t) (lsrByte t))

/-- ARR's effect: `C` is bit 6 of the result and `V` is bit 6 xor bit 5 (R256). -/
def arrEffect (m : Byte) (s : State) : State :=
  let r := rorByte (s.a &&& m) s.flags.c
  (s.setA r).setFlags { s.flags.setNZ r with c := r.getLsbD 6, v := Bool.xor (r.getLsbD 6) (r.getLsbD 5) }

/-- SBX's effect: `X <- (A and X) - M` with the flags of a compare (R257). -/
def sbxEffect (m : Byte) (s : State) : State :=
  let t := s.a &&& s.x
  (s.setX (t - m)).setFlags (s.flags.compare t m)

/-- LAS's effect: `M and S` into `A`, `X` and `S` (R259). -/
def lasEffect (m : Byte) (s : State) : State :=
  let t := m &&& s.sp
  (((s.setA t).setX t).setSp t).setNZ t

/-- The value ANE computes for the constant `magic` (R260). -/
def aneValue (magic m : Byte) (s : State) : Byte := (s.a ||| magic) &&& s.x &&& m

/-- ANE's effect, for this machine's constant `ANE_MAGIC` (R260; log entry 6). -/
def aneEffect (m : Byte) (s : State) : State :=
  let r := aneValue Config.aneMagic m s
  (s.setA r).setNZ r

/-- The value LXA computes for the constant `magic` (R261). -/
def lxaValue (magic m : Byte) (s : State) : Byte := (s.a ||| magic) &&& m

/-- LXA's effect, for this machine's constant `LXA_MAGIC` (R261; log entry 6). -/
def lxaEffect (m : Byte) (s : State) : State := laxEffect (lxaValue Config.lxaMagic m s) s

/-- The byte an unstable store writes: the register value and the high byte of the base address plus one (R266). -/
def unstableValue (r : Byte) (at' : Resolved) : Byte := r &&& (hiByte at'.base + 1)

/-- The address an unstable store writes: when a page is crossed the stored value replaces the high byte (R266). -/
def unstableAddr (r : Byte) (at' : Resolved) : Addr :=
  if at'.crossed then wordOf (unstableValue r at') (loByte at'.ea) else at'.ea

/-- `UnstableStore(r, ea, crossed, base)` as an instruction of write class (R262 to R266), without a DMA or RDY stall
(decision D11; log entry 14). -/
def unstableRule (m : MemOperand) (base : Nat) (r : Byte) (s : State) : Result :=
  let at' := resolve m s
  .next ((s.writeMem (unstableAddr r at') (unstableValue r at')).retire m.length base)

/-! #### NOP (R241, R242, R243, R244) -/

/-- `1A`: NOP imp (R241). -/
def execNopImp1A (s : State) : Result := impliedRule 2 s
/-- `3A`: NOP imp (R241). -/
def execNopImp3A (s : State) : Result := impliedRule 2 s
/-- `5A`: NOP imp (R241). -/
def execNopImp5A (s : State) : Result := impliedRule 2 s
/-- `7A`: NOP imp (R241). -/
def execNopImp7A (s : State) : Result := impliedRule 2 s
/-- `DA`: NOP imp (R241). -/
def execNopImpDA (s : State) : Result := impliedRule 2 s
/-- `FA`: NOP imp (R241). -/
def execNopImpFA (s : State) : Result := impliedRule 2 s
/-- `80`: NOP imm (R242). -/
def execNopImm80 (v : Byte) (s : State) : Result := readRule (.imm v) 2 false nopEffect s
/-- `82`: NOP imm (R242). -/
def execNopImm82 (v : Byte) (s : State) : Result := readRule (.imm v) 2 false nopEffect s
/-- `89`: NOP imm (R242). -/
def execNopImm89 (v : Byte) (s : State) : Result := readRule (.imm v) 2 false nopEffect s
/-- `C2`: NOP imm (R242). -/
def execNopImmC2 (v : Byte) (s : State) : Result := readRule (.imm v) 2 false nopEffect s
/-- `E2`: NOP imm (R242). -/
def execNopImmE2 (v : Byte) (s : State) : Result := readRule (.imm v) 2 false nopEffect s
/-- `04`: NOP zp (R243). -/
def execNopZp04 (z : Byte) (s : State) : Result := readRule (.zp z) 3 false nopEffect s
/-- `44`: NOP zp (R243). -/
def execNopZp44 (z : Byte) (s : State) : Result := readRule (.zp z) 3 false nopEffect s
/-- `64`: NOP zp (R243). -/
def execNopZp64 (z : Byte) (s : State) : Result := readRule (.zp z) 3 false nopEffect s
/-- `14`: NOP zpx (R243). -/
def execNopZpx14 (z : Byte) (s : State) : Result := readRule (.zpx z) 4 false nopEffect s
/-- `34`: NOP zpx (R243). -/
def execNopZpx34 (z : Byte) (s : State) : Result := readRule (.zpx z) 4 false nopEffect s
/-- `54`: NOP zpx (R243). -/
def execNopZpx54 (z : Byte) (s : State) : Result := readRule (.zpx z) 4 false nopEffect s
/-- `74`: NOP zpx (R243). -/
def execNopZpx74 (z : Byte) (s : State) : Result := readRule (.zpx z) 4 false nopEffect s
/-- `D4`: NOP zpx (R243). -/
def execNopZpxD4 (z : Byte) (s : State) : Result := readRule (.zpx z) 4 false nopEffect s
/-- `F4`: NOP zpx (R243). -/
def execNopZpxF4 (z : Byte) (s : State) : Result := readRule (.zpx z) 4 false nopEffect s
/-- `0C`: NOP abs (R243). -/
def execNopAbs0C (w : Addr) (s : State) : Result := readRule (.abs w) 4 false nopEffect s
/-- `1C`: NOP abx (R244). -/
def execNopAbx1C (w : Addr) (s : State) : Result := readRule (.abx w) 4 true nopEffect s
/-- `3C`: NOP abx (R244). -/
def execNopAbx3C (w : Addr) (s : State) : Result := readRule (.abx w) 4 true nopEffect s
/-- `5C`: NOP abx (R244). -/
def execNopAbx5C (w : Addr) (s : State) : Result := readRule (.abx w) 4 true nopEffect s
/-- `7C`: NOP abx (R244). -/
def execNopAbx7C (w : Addr) (s : State) : Result := readRule (.abx w) 4 true nopEffect s
/-- `DC`: NOP abx (R244). -/
def execNopAbxDC (w : Addr) (s : State) : Result := readRule (.abx w) 4 true nopEffect s
/-- `FC`: NOP abx (R244). -/
def execNopAbxFC (w : Addr) (s : State) : Result := readRule (.abx w) 4 true nopEffect s

/-! #### JAM (R245) -/

/-- `02`: JAM imp (R245). -/
def execJam02 (s : State) : Result := jamRule s
/-- `12`: JAM imp (R245). -/
def execJam12 (s : State) : Result := jamRule s
/-- `22`: JAM imp (R245). -/
def execJam22 (s : State) : Result := jamRule s
/-- `32`: JAM imp (R245). -/
def execJam32 (s : State) : Result := jamRule s
/-- `42`: JAM imp (R245). -/
def execJam42 (s : State) : Result := jamRule s
/-- `52`: JAM imp (R245). -/
def execJam52 (s : State) : Result := jamRule s
/-- `62`: JAM imp (R245). -/
def execJam62 (s : State) : Result := jamRule s
/-- `72`: JAM imp (R245). -/
def execJam72 (s : State) : Result := jamRule s
/-- `92`: JAM imp (R245). -/
def execJam92 (s : State) : Result := jamRule s
/-- `B2`: JAM imp (R245). -/
def execJamB2 (s : State) : Result := jamRule s
/-- `D2`: JAM imp (R245). -/
def execJamD2 (s : State) : Result := jamRule s
/-- `F2`: JAM imp (R245). -/
def execJamF2 (s : State) : Result := jamRule s

/-! #### SLO (R246) -/

/-- `07`: SLO zp (R246). -/
def execSloZp (z : Byte) (s : State) : Result := modifyRule (.zp z) 5 aslByte sloEffect s
/-- `17`: SLO zpx (R246). -/
def execSloZpx (z : Byte) (s : State) : Result := modifyRule (.zpx z) 6 aslByte sloEffect s
/-- `0F`: SLO abs (R246). -/
def execSloAbs (w : Addr) (s : State) : Result := modifyRule (.abs w) 6 aslByte sloEffect s
/-- `1F`: SLO abx (R246). -/
def execSloAbx (w : Addr) (s : State) : Result := modifyRule (.abx w) 7 aslByte sloEffect s
/-- `1B`: SLO aby (R246). -/
def execSloAby (w : Addr) (s : State) : Result := modifyRule (.aby w) 7 aslByte sloEffect s
/-- `03`: SLO izx (R246). -/
def execSloIzx (z : Byte) (s : State) : Result := modifyRule (.izx z) 8 aslByte sloEffect s
/-- `13`: SLO izy (R246). -/
def execSloIzy (z : Byte) (s : State) : Result := modifyRule (.izy z) 8 aslByte sloEffect s

/-! #### RLA (R247) -/

/-- `27`: RLA zp (R247). -/
def execRlaZp (z : Byte) (s : State) : Result := modifyRule (.zp z) 5 (fun m => rolByte m s.flags.c) rlaEffect s
/-- `37`: RLA zpx (R247). -/
def execRlaZpx (z : Byte) (s : State) : Result := modifyRule (.zpx z) 6 (fun m => rolByte m s.flags.c) rlaEffect s
/-- `2F`: RLA abs (R247). -/
def execRlaAbs (w : Addr) (s : State) : Result := modifyRule (.abs w) 6 (fun m => rolByte m s.flags.c) rlaEffect s
/-- `3F`: RLA abx (R247). -/
def execRlaAbx (w : Addr) (s : State) : Result := modifyRule (.abx w) 7 (fun m => rolByte m s.flags.c) rlaEffect s
/-- `3B`: RLA aby (R247). -/
def execRlaAby (w : Addr) (s : State) : Result := modifyRule (.aby w) 7 (fun m => rolByte m s.flags.c) rlaEffect s
/-- `23`: RLA izx (R247). -/
def execRlaIzx (z : Byte) (s : State) : Result := modifyRule (.izx z) 8 (fun m => rolByte m s.flags.c) rlaEffect s
/-- `33`: RLA izy (R247). -/
def execRlaIzy (z : Byte) (s : State) : Result := modifyRule (.izy z) 8 (fun m => rolByte m s.flags.c) rlaEffect s

/-! #### SRE (R248) -/

/-- `47`: SRE zp (R248). -/
def execSreZp (z : Byte) (s : State) : Result := modifyRule (.zp z) 5 lsrByte sreEffect s
/-- `57`: SRE zpx (R248). -/
def execSreZpx (z : Byte) (s : State) : Result := modifyRule (.zpx z) 6 lsrByte sreEffect s
/-- `4F`: SRE abs (R248). -/
def execSreAbs (w : Addr) (s : State) : Result := modifyRule (.abs w) 6 lsrByte sreEffect s
/-- `5F`: SRE abx (R248). -/
def execSreAbx (w : Addr) (s : State) : Result := modifyRule (.abx w) 7 lsrByte sreEffect s
/-- `5B`: SRE aby (R248). -/
def execSreAby (w : Addr) (s : State) : Result := modifyRule (.aby w) 7 lsrByte sreEffect s
/-- `43`: SRE izx (R248). -/
def execSreIzx (z : Byte) (s : State) : Result := modifyRule (.izx z) 8 lsrByte sreEffect s
/-- `53`: SRE izy (R248). -/
def execSreIzy (z : Byte) (s : State) : Result := modifyRule (.izy z) 8 lsrByte sreEffect s

/-! #### RRA (R249) -/

/-- `67`: RRA zp (R249). -/
def execRraZp (z : Byte) (s : State) : Result := modifyRule (.zp z) 5 (fun m => rorByte m s.flags.c) rraEffect s
/-- `77`: RRA zpx (R249). -/
def execRraZpx (z : Byte) (s : State) : Result := modifyRule (.zpx z) 6 (fun m => rorByte m s.flags.c) rraEffect s
/-- `6F`: RRA abs (R249). -/
def execRraAbs (w : Addr) (s : State) : Result := modifyRule (.abs w) 6 (fun m => rorByte m s.flags.c) rraEffect s
/-- `7F`: RRA abx (R249). -/
def execRraAbx (w : Addr) (s : State) : Result := modifyRule (.abx w) 7 (fun m => rorByte m s.flags.c) rraEffect s
/-- `7B`: RRA aby (R249). -/
def execRraAby (w : Addr) (s : State) : Result := modifyRule (.aby w) 7 (fun m => rorByte m s.flags.c) rraEffect s
/-- `63`: RRA izx (R249). -/
def execRraIzx (z : Byte) (s : State) : Result := modifyRule (.izx z) 8 (fun m => rorByte m s.flags.c) rraEffect s
/-- `73`: RRA izy (R249). -/
def execRraIzy (z : Byte) (s : State) : Result := modifyRule (.izy z) 8 (fun m => rorByte m s.flags.c) rraEffect s

/-! #### DCP (R252) -/

/-- `C7`: DCP zp (R252). -/
def execDcpZp (z : Byte) (s : State) : Result := modifyRule (.zp z) 5 (· - 1) dcpEffect s
/-- `D7`: DCP zpx (R252). -/
def execDcpZpx (z : Byte) (s : State) : Result := modifyRule (.zpx z) 6 (· - 1) dcpEffect s
/-- `CF`: DCP abs (R252). -/
def execDcpAbs (w : Addr) (s : State) : Result := modifyRule (.abs w) 6 (· - 1) dcpEffect s
/-- `DF`: DCP abx (R252). -/
def execDcpAbx (w : Addr) (s : State) : Result := modifyRule (.abx w) 7 (· - 1) dcpEffect s
/-- `DB`: DCP aby (R252). -/
def execDcpAby (w : Addr) (s : State) : Result := modifyRule (.aby w) 7 (· - 1) dcpEffect s
/-- `C3`: DCP izx (R252). -/
def execDcpIzx (z : Byte) (s : State) : Result := modifyRule (.izx z) 8 (· - 1) dcpEffect s
/-- `D3`: DCP izy (R252). -/
def execDcpIzy (z : Byte) (s : State) : Result := modifyRule (.izy z) 8 (· - 1) dcpEffect s

/-! #### ISC (R253) -/

/-- `E7`: ISC zp (R253). -/
def execIscZp (z : Byte) (s : State) : Result := modifyRule (.zp z) 5 (· + 1) iscEffect s
/-- `F7`: ISC zpx (R253). -/
def execIscZpx (z : Byte) (s : State) : Result := modifyRule (.zpx z) 6 (· + 1) iscEffect s
/-- `EF`: ISC abs (R253). -/
def execIscAbs (w : Addr) (s : State) : Result := modifyRule (.abs w) 6 (· + 1) iscEffect s
/-- `FF`: ISC abx (R253). -/
def execIscAbx (w : Addr) (s : State) : Result := modifyRule (.abx w) 7 (· + 1) iscEffect s
/-- `FB`: ISC aby (R253). -/
def execIscAby (w : Addr) (s : State) : Result := modifyRule (.aby w) 7 (· + 1) iscEffect s
/-- `E3`: ISC izx (R253). -/
def execIscIzx (z : Byte) (s : State) : Result := modifyRule (.izx z) 8 (· + 1) iscEffect s
/-- `F3`: ISC izy (R253). -/
def execIscIzy (z : Byte) (s : State) : Result := modifyRule (.izy z) 8 (· + 1) iscEffect s

/-! #### SAX (R250) -/

/-- `87`: SAX zp (R250). -/
def execSaxZp (z : Byte) (s : State) : Result := writeRule (.zp z) 3 (s.a &&& s.x) s
/-- `97`: SAX zpy (R250). -/
def execSaxZpy (z : Byte) (s : State) : Result := writeRule (.zpy z) 4 (s.a &&& s.x) s
/-- `8F`: SAX abs (R250). -/
def execSaxAbs (w : Addr) (s : State) : Result := writeRule (.abs w) 4 (s.a &&& s.x) s
/-- `83`: SAX izx (R250). -/
def execSaxIzx (z : Byte) (s : State) : Result := writeRule (.izx z) 6 (s.a &&& s.x) s

/-! #### LAX (R251) -/

/-- `A7`: LAX zp (R251). -/
def execLaxZp (z : Byte) (s : State) : Result := readRule (.zp z) 3 false laxEffect s
/-- `B7`: LAX zpy (R251). -/
def execLaxZpy (z : Byte) (s : State) : Result := readRule (.zpy z) 4 false laxEffect s
/-- `AF`: LAX abs (R251). -/
def execLaxAbs (w : Addr) (s : State) : Result := readRule (.abs w) 4 false laxEffect s
/-- `BF`: LAX aby (R251). -/
def execLaxAby (w : Addr) (s : State) : Result := readRule (.aby w) 4 true laxEffect s
/-- `A3`: LAX izx (R251). -/
def execLaxIzx (z : Byte) (s : State) : Result := readRule (.izx z) 6 false laxEffect s
/-- `B3`: LAX izy (R251). -/
def execLaxIzy (z : Byte) (s : State) : Result := readRule (.izy z) 5 true laxEffect s

/-! #### ANC (R254) -/

/-- `0B`: ANC imm (R254). -/
def execAnc0B (v : Byte) (s : State) : Result := readRule (.imm v) 2 false ancEffect s
/-- `2B`: ANC imm (R254). -/
def execAnc2B (v : Byte) (s : State) : Result := readRule (.imm v) 2 false ancEffect s

/-! #### ALR (R255) -/

/-- `4B`: ALR imm (R255). -/
def execAlr (v : Byte) (s : State) : Result := readRule (.imm v) 2 false alrEffect s

/-! #### ARR (R256) -/

/-- `6B`: ARR imm (R256). -/
def execArr (v : Byte) (s : State) : Result := readRule (.imm v) 2 false arrEffect s

/-! #### SBX (R257) -/

/-- `CB`: SBX imm (R257). -/
def execSbx (v : Byte) (s : State) : Result := readRule (.imm v) 2 false sbxEffect s

/-! #### USBC (R258) -/

/-- `EB`: USBC imm (R258). -/
def execUsbc (v : Byte) (s : State) : Result := readRule (.imm v) 2 false sbcEffect s

/-! #### LAS (R259) -/

/-- `BB`: LAS aby (R259). -/
def execLas (w : Addr) (s : State) : Result := readRule (.aby w) 4 true lasEffect s

/-! #### ANE (R260) -/

/-- `8B`: ANE imm (R260). -/
def execAne (v : Byte) (s : State) : Result := readRule (.imm v) 2 false aneEffect s

/-! #### LXA (R261) -/

/-- `AB`: LXA imm (R261). -/
def execLxa (v : Byte) (s : State) : Result := readRule (.imm v) 2 false lxaEffect s

/-! #### SHA (R262) -/

/-- `9F`: SHA aby (R262). -/
def execShaAby (w : Addr) (s : State) : Result := unstableRule (.aby w) 5 (s.a &&& s.x) s
/-- `93`: SHA izy (R262). -/
def execShaIzy (z : Byte) (s : State) : Result := unstableRule (.izy z) 6 (s.a &&& s.x) s

/-! #### SHX (R263) -/

/-- `9E`: SHX aby (R263). -/
def execShx (w : Addr) (s : State) : Result := unstableRule (.aby w) 5 s.x s

/-! #### SHY (R264) -/

/-- `9C`: SHY abx (R264). -/
def execShy (w : Addr) (s : State) : Result := unstableRule (.abx w) 5 s.y s

/-! #### TAS (R265) -/

/-- `9B`: TAS aby (R265). -/
def execTas (w : Addr) (s : State) : Result := unstableRule (.aby w) 5 (s.a &&& s.x) (s.setSp (s.a &&& s.x))

end Sys2Proof.Machine
end

