-- ==== Sys2Proof/Machine/Interrupt.lean ====
section
/-! DEFINITION. The interrupt sequencer at an instruction boundary (spec/60_exceptions.md R300 to R306, R338): what the boundary
check finds, and the NMI, IRQ and halted steps. -/

namespace Sys2Proof.Machine

/-- What a step does, decided at its boundary (R305, R338). -/
inductive BoundaryEvent where
  | halted
  | nmi
  | irq
  | instruction
  deriving DecidableEq, Repr

/-- The boundary check: a halted core does nothing, then NMI, then IRQ if `I = 0`, then an instruction (R300, R302, R305).
The inputs and `I` are taken as they are at the boundary (decision D10; log entry 13). -/
def boundary (s : State) : BoundaryEvent :=
  if s.halted then .halted
  else if s.nmiPending then .nmi
  else if s.irqLine && !s.flags.i then .irq
  else .instruction

/-- A step of a halted core (R302): no bus access and no change; it returns `(Halted, JAM_CYCLES)`. -/
def haltedStep (s : State) : State := { s with cycles := Config.jamCycles, outcome := .halted }

/-- Servicing an NMI clears the pending edge (R300, R306) and takes the trap with Break forced to 0 (R320). -/
def serviceNmi (s : State) : State :=
  ({ s with nmiPending := false } : State).enterTrap s.pc false Config.vecNmi .nmi

/-- Servicing an IRQ clears nothing: the line is the host's (R306); the trap is taken with Break forced to 0 (R320). -/
def serviceIrq (s : State) : State := s.enterTrap s.pc false Config.vecIrq .irq

end Sys2Proof.Machine
end

