-- ==== Sys2Proof/Machine/Step.lean ====
section
/-! DEFINITION. One step, the source's `execute_one` (spec/60_exceptions.md R300), and the host's placing of an instruction where
the next step fetches. -/

namespace Sys2Proof.Machine

/-- One step (R300): one interrupt sequence, or exactly one instruction, or nothing when halted. -/
def step (s : State) : Host.Outcome State Fault Refusal :=
  match boundary s with
  | .halted => .next (haltedStep s)
  | .nmi => .next (serviceNmi s)
  | .irq => .next (serviceIrq s)
  | .instruction => exec s.fetchInstr s

/-- One address that is a byte of RAM in the cell of its own number. -/
def Window.ramByte (a : Addr) : Window := { first := a, last := a, reads := .cells a 1, writes := .cells a 1 }

/-- `s` with the instruction whose bits are `w` (bits at or above `nbits` are 0) stored at `PC`, `PC + 1` and `PC + 2`, and with
nothing left that would keep the next step from fetching it: not halted, no NMI pending, no unmasked IRQ, and, unless the host's bus
is plain memory, a byte of RAM at each of the three addresses (log entry 11). -/
def State.withFetchWord (s : State) (nbits w : Nat) : State :=
  let bits := w % 2 ^ nbits
  let code := [s.pc, s.pc + 1, s.pc + 2]
  let running := { s with
    halted := false, nmiPending := false, irqLine := s.irqLine && s.flags.i
    bus := match s.bus with
      | [] => []
      | windows => code.map Window.ramByte ++ windows }
  ((running.writeMem s.pc (BitVec.ofNat 8 bits)).writeMem (s.pc + 1) (BitVec.ofNat 8 (bits / 256))).writeMem (s.pc + 2)
    (BitVec.ofNat 8 (bits / 65536))

end Sys2Proof.Machine
end

