-- ==== Sys2Proof/Machine/BusActivity.lean ====
section
/-! DEFINITION. Bus activity cycle by cycle (spec/70_reset_and_hazards.md R360 to R367): one access in every cycle, the
dummy accesses of the hardware included (spec/00_scope.md R12). The lists stand beside the step and change nothing in it; a
read's value is what the host's bus answers, since reads are pure (spec/20_memory.md R54). -/

namespace Sys2Proof.Machine

/-- One bus cycle; `dummy` marks an access whose value is discarded or that writes back the unmodified byte (R12). -/
inductive BusCycle where
  | read (a : Addr) (dummy : Bool)
  | write (a : Addr) (v : Byte) (dummy : Bool)
  deriving DecidableEq, Repr

/-- A required access: its value is used or its write is the effect (R12). -/
def BusCycle.required : BusCycle → Bool
  | .read _ dummy => !dummy
  | .write _ _ dummy => !dummy

/-- The state with its host's bus after a list of bus cycles, their writes performed in order (R66). -/
def replay : List BusCycle → State → State
  | [], s => s
  | .read _ _ :: rest, s => replay rest s
  | .write a v _ :: rest, s => replay rest (s.writeMem a v)

/-- The address with the low byte already indexed and the high byte not yet corrected (R362). -/
def wrongAddr (r : Resolved) : Addr := wordOf (hiByte r.base) (loByte r.ea)

/-- The cycle at the uncorrected address: always for a store or a read-modify-write, for a read only when a page is crossed
(R362). -/
def fixupCycle (always : Bool) (r : Resolved) : List BusCycle :=
  if always || r.crossed then [.read (wrongAddr r) true] else []

/-- The cycles between the opcode fetch and the data access (R361 to R363). -/
def addressCycles (m : MemOperand) (always : Bool) (s : State) : List BusCycle :=
  let b1 := BusCycle.read (s.pc + 1) false
  let b2 := BusCycle.read (s.pc + 2) false
  match m with
  | .imm _ => []
  | .zp _ => [b1]
  | .zpx z => [b1, .read (zeroPage z) true]
  | .zpy z => [b1, .read (zeroPage z) true]
  | .abs _ => [b1, b2]
  | .abx _ => [b1, b2] ++ fixupCycle always (resolve m s)
  | .aby _ => [b1, b2] ++ fixupCycle always (resolve m s)
  | .izx z => [b1, .read (zeroPage z) true, .read (zeroPage (z + s.x)) false, .read (zeroPage (z + s.x + 1)) false]
  | .izy z => [b1, .read (zeroPage z) false, .read (zeroPage (z + 1)) false] ++ fixupCycle always (resolve m s)

/-- The opcode fetch. -/
def opcodeCycle (s : State) : BusCycle := .read s.pc false

/-- The dummy read of the byte after a one-byte instruction (R360). -/
def idleCycle (s : State) : BusCycle := .read (s.pc + 1) true

/-- The access to the stack page at `{0x01, S + k}`. -/
def stackRead (s : State) (k : Byte) (dummy : Bool) : BusCycle := .read (stackAddr (s.sp + k)) dummy

def readCycles (m : MemOperand) (s : State) : List BusCycle :=
  opcodeCycle s :: addressCycles m false s ++ [.read (resolve m s).ea false]

def writeCycles (m : MemOperand) (a : Addr) (v : Byte) (s : State) : List BusCycle :=
  opcodeCycle s :: addressCycles m true s ++ [.write a v false]

/-- A read-modify-write writes the unmodified byte before the result (R353, R363). -/
def modifyCycles (m : MemOperand) (change : Byte → Byte) (s : State) : List BusCycle :=
  let ea := (resolve m s).ea
  let old := operandByte m s
  opcodeCycle s :: addressCycles m true s ++ [.read ea false, .write ea old true, .write ea (change old) false]

def impliedCycles (s : State) : List BusCycle := [opcodeCycle s, idleCycle s]

/-- The cycles of a read-class operation, or of the one-byte NOP (R360 to R363). -/
def readOrImplied (o : Operand) (s : State) : List BusCycle :=
  match o with
  | .mem m => readCycles m s
  | _ => impliedCycles s

def storeCycles (o : Operand) (v : Byte) (s : State) : List BusCycle :=
  match o with
  | .mem m => writeCycles m (resolve m s).ea v s
  | _ => impliedCycles s

def unstableCycles (o : Operand) (r : Byte) (s : State) : List BusCycle :=
  match o with
  | .mem m => writeCycles m (unstableAddr r (resolve m s)) (unstableValue r (resolve m s)) s
  | _ => impliedCycles s

/-- The cycles of a shift, rotate, increment or decrement; the accumulator form is implied (R360, R363). -/
def modifyOrImplied (o : Operand) (change : Byte → Byte) (s : State) : List BusCycle :=
  match o with
  | .mem m => modifyCycles m change s
  | _ => impliedCycles s

/-- The cycles of a branch (R364). -/
def branchCycles (o : Operand) (taken : Bool) (s : State) : List BusCycle :=
  match o with
  | .rel d =>
    let next := s.pc + 2
    let target := branchTarget d s
    [opcodeCycle s, .read (s.pc + 1) false]
      ++ (if taken then .read next true ::
            (if hiByte target != hiByte next then [.read (wordOf (hiByte next) (loByte target)) true] else []) else [])
  | _ => impliedCycles s

/-- The three writes of a trap frame (R320, R365). -/
def frameCycles (returnAddr : Addr) (breakBit : Bool) (s : State) : List BusCycle :=
  [.write (stackAddr s.sp) (hiByte returnAddr) false, .write (stackAddr (s.sp - 1)) (loByte returnAddr) false,
   .write (stackAddr (s.sp - 2)) (pushedStatus s.flags breakBit) false]

def vectorCycles (vector : Addr) : List BusCycle := [.read vector false, .read (vector + 1) false]

/-- The cycles of the jumps (R360). -/
def jumpCycles (o : Operand) (s : State) : List BusCycle :=
  match o with
  | .ind w => [opcodeCycle s, .read (s.pc + 1) false, .read (s.pc + 2) false, .read w false,
      .read (wordOf (hiByte w) (loByte w + 1)) false]
  | _ => [opcodeCycle s, .read (s.pc + 1) false, .read (s.pc + 2) false]

/-- The cycles of JSR (R360). -/
def jsrCycles (s : State) : List BusCycle :=
  let last := s.pc + 2
  [opcodeCycle s, .read (s.pc + 1) false, stackRead s 0 true, .write (stackAddr s.sp) (hiByte last) false,
   .write (stackAddr (s.sp - 1)) (loByte last) false, .read last false]

/-- The bus cycles of instruction `i` run at `s` (R360 to R364, R367). -/
def busActivity (i : Instr) (s : State) : List BusCycle :=
  let o := i.operand
  match i.entry.op with
  | .LDA | .LDX | .LDY | .ADC | .SBC | .AND | .ORA | .EOR | .CMP | .CPX | .CPY | .BIT | .NOP | .LAX | .ANC | .ALR | .ARR
  | .SBX | .USBC | .LAS | .ANE | .LXA => readOrImplied o s
  | .STA => storeCycles o s.a s
  | .STX => storeCycles o s.x s
  | .STY => storeCycles o s.y s
  | .SAX => storeCycles o (s.a &&& s.x) s
  | .SHA | .TAS => unstableCycles o (s.a &&& s.x) s
  | .SHX => unstableCycles o s.x s
  | .SHY => unstableCycles o s.y s
  | .ASL | .SLO => modifyOrImplied o aslByte s
  | .LSR | .SRE => modifyOrImplied o lsrByte s
  | .ROL | .RLA => modifyOrImplied o (fun m => rolByte m s.flags.c) s
  | .ROR | .RRA => modifyOrImplied o (fun m => rorByte m s.flags.c) s
  | .INC | .ISC => modifyOrImplied o (· + 1) s
  | .DEC | .DCP => modifyOrImplied o (· - 1) s
  | .TAX | .TAY | .TXA | .TYA | .TSX | .TXS | .INX | .INY | .DEX | .DEY | .CLC | .SEC | .CLI | .SEI | .CLV | .CLD
  | .SED => impliedCycles s
  | .BCC => branchCycles o (!s.flags.c) s
  | .BCS => branchCycles o s.flags.c s
  | .BEQ => branchCycles o s.flags.z s
  | .BNE => branchCycles o (!s.flags.z) s
  | .BMI => branchCycles o s.flags.n s
  | .BPL => branchCycles o (!s.flags.n) s
  | .BVC => branchCycles o (!s.flags.v) s
  | .BVS => branchCycles o s.flags.v s
  | .JMP => jumpCycles o s
  | .JSR => jsrCycles s
  | .RTS => [opcodeCycle s, idleCycle s, stackRead s 0 true, stackRead s 1 false, stackRead s 2 false,
      .read (wordOf s.pulled.pullByte s.pullByte) true]
  | .RTI => [opcodeCycle s, idleCycle s, stackRead s 0 true, stackRead s 1 false, stackRead s 2 false, stackRead s 3 false]
  | .PHA => [opcodeCycle s, idleCycle s, .write (stackAddr s.sp) s.a false]
  | .PHP => [opcodeCycle s, idleCycle s, .write (stackAddr s.sp) (pushedStatus s.flags true) false]
  | .PLA | .PLP => [opcodeCycle s, idleCycle s, stackRead s 0 true, stackRead s 1 false]
  | .BRK => [opcodeCycle s, idleCycle s] ++ frameCycles (s.pc + 2) true s ++ vectorCycles Config.vecIrq
  | .JAM => [opcodeCycle s]

/-- The bus cycles of an NMI or IRQ sequence (R365). -/
def interruptCycles (vector : Addr) (s : State) : List BusCycle :=
  [.read s.pc true, .read s.pc true] ++ frameCycles s.pc false s ++ vectorCycles vector

/-- The bus cycles of the Reset sequence: the three stack cycles are reads (R366). -/
def resetBusActivity (s : State) : List BusCycle :=
  [.read s.pc true, .read s.pc true, stackRead s 0 true, .read (stackAddr (s.sp - 1)) true, .read (stackAddr (s.sp - 2)) true]
    ++ vectorCycles Config.vecReset

/-- The bus cycles of the next step; a halted core makes no access (R302). -/
def stepBusActivity (s : State) : List BusCycle :=
  match boundary s with
  | .halted => []
  | .nmi => interruptCycles Config.vecNmi s
  | .irq => interruptCycles Config.vecIrq s
  | .instruction => busActivity s.fetchInstr s

end Sys2Proof.Machine
end

