-- ==== Sys2Proof/Machine/HostPort.lean ====
section
/-! DEFINITION. The host's side of the block's interfaces (spec/00_scope.md R13): Reset, the two interrupt lines
(spec/60_exceptions.md R303, R304), the register accessors and mutators (R336, spec/10_state.md R26, R27), and the host's own
change of memory between steps (spec/20_memory.md R71). Each acts between two steps (log entry 16). -/

namespace Sys2Proof.Machine

/-- `set_interrupt_line(NMI, level)`: a rising edge is remembered, a falling one does not clear it (R303). -/
def State.setNmiLine (level : Bool) (s : State) : State :=
  { s with nmiPending := s.nmiPending || (level && !s.nmiLine), nmiLine := level }

/-- `set_interrupt_line(IRQ, level)`: only the level is kept (R304). -/
def State.setIrqLine (level : Bool) (s : State) : State := { s with irqLine := level }

/-- The host's read of the status register as a byte (R26, R336). -/
def State.status (s : State) : Byte := s.flags.toByte

/-- The host's write of the status register as a byte (R27, R336). -/
def State.setStatus (p : Byte) (s : State) : State := { s with flags := Flags.ofByte p }

/-- What the host can do between two steps to the core (R13) and to what it has behind the bus (R4, R71): `storeByte` changes a cell of
its storage, whatever the map lets the CORE write, `setBus` its map, `setDevices` the state of its units. The hidden bits are for
inspection only (R336). -/
inductive HostAction where
  | reset
  | setNmi (level : Bool)
  | setIrq (level : Bool)
  | writeA (v : Byte)
  | writeX (v : Byte)
  | writeY (v : Byte)
  | writeS (v : Byte)
  | writePC (v : Addr)
  | writeStatus (v : Byte)
  | storeByte (a : Addr) (v : Byte)
  | setBus (bus : BusMap)
  | setDevices (n : Nat)
  deriving DecidableEq, Repr

/-- The state after a host action. -/
def hostAct (act : HostAction) (s : State) : State :=
  match act with
  | .reset => s.resetSequence
  | .setNmi level => s.setNmiLine level
  | .setIrq level => s.setIrqLine level
  | .writeA v => s.setA v
  | .writeX v => s.setX v
  | .writeY v => s.setY v
  | .writeS v => s.setSp v
  | .writePC v => s.setPc v
  | .writeStatus v => s.setStatus v
  | .storeByte a v => { s with mem := Memory.write s.mem a.toNat v }
  | .setBus bus => { s with bus := bus }
  | .setDevices n => { s with devices := n }

/-- One event of a session between host and core. -/
inductive Event where
  | step
  | host (act : HostAction)
  deriving DecidableEq, Repr

/-- The events of a session in order; it would stop at the first fault or refusal. -/
def runEvents : List Event → State → Result
  | [], s => .next s
  | .host act :: rest, s => runEvents rest (hostAct act s)
  | .step :: rest, s =>
    match step s with
    | .next t => runEvents rest t
    | .fault r => .fault r
    | .refused r => .refused r

end Sys2Proof.Machine
end

