-- ==== Sys2Proof/Safety.lean ====
section
/-! DEFINITION. What every run keeps. There is no error outcome to avoid (spec/00_scope.md R14), so a safe run is one in which
the state stays one the spec can reach: memory in canonical form, and a halted core reporting what a halted core reports. -/

namespace Sys2Proof.Machine

/-- The invariant of every reachable state: memory is canonical (R53), and while `halted` holds the last result was
`(Halted, JAM_CYCLES)` (R245, R302). -/
def State.Inv (s : State) : Prop :=
  Memory.wf s.mem = true ∧ (s.halted = true → s.outcome = .halted ∧ s.cycles = Config.jamCycles)

/-- The states a session reaches: power-on with any draw over any host's bus with canonical storage, then steps and host actions (R13, R338,
R340). -/
inductive Reachable : State → Prop where
  | powerOn (draw : PowerOnDraw) (bus : BusMap) (devices : Nat) (mem : Memory) (canonical : Memory.wf mem = true) :
    Reachable (powerOn draw bus devices mem)
  | step {s t : State} (before : Reachable s) (stepped : Machine.step s = .next t) : Reachable t
  | host {s : State} (before : Reachable s) (act : HostAction) : Reachable (hostAct act s)

end Sys2Proof.Machine
end

