-- ==== Sys2Proof/WellFormed.lean ====
section
/-! DEFINITION. Well-formedness. The type `Instr` admits no ill-formed term: every opcode value is an instruction and every
operand byte is legal (spec/30_encoding.md R89, spec/93_implementation_defined.md U8). What can be ill-formed is a byte string, and
the one check is its length, which the opcode alone decides (R80, R84). -/

namespace Sys2Proof

/-- A byte string is one instruction: an opcode byte followed by exactly the operand bytes of its mode (R80, R84). -/
def wellFormedBytes : List Byte → Bool
  | [] => false
  | opcode :: rest => rest.length == operandBytes opcode

/-- An instruction is well formed when its bytes are (log entry 18: true of every term). -/
def Instr.wellFormed (i : Instr) : Bool := wellFormedBytes (encode i)

end Sys2Proof
end

