-- ==== Sys2Proof/Certificates/Slice0/Obligations.lean ====
section
/-! DEFINITION. The statements for the provers: what the numbered rules of spec/ say of the instructions and of the machine. -/

open Sys2Proof Sys2Proof.Machine

namespace Sys2Proof.Claims

/-! ### Words the statements share -/

/-- The byte an instruction works on: the operand byte of its memory operand, else the accumulator (R102, R116, R118). -/
def operandOf (i : Instr) (s : State) : Byte :=
  match i.operand with
  | .mem m => operandByte m s
  | _ => s.a

/-- Whether the indexed access of an instruction crosses a page; 0 without a memory operand (R114). -/
def crossedOf (i : Instr) (s : State) : Bool :=
  match i.operand with
  | .mem m => (resolve m s).crossed
  | _ => false

/-- `t` with `r` put where the instruction's operand is: the byte at the effective address computed at `s`, or `A` (R102, R118). -/
def putBack (i : Instr) (s : State) (r : Byte) (t : State) : State :=
  match i.operand with
  | .mem m => t.writeMem (resolve m s).ea r
  | _ => { t with a := r }

/-- Base cycles of the table plus the page-cross penalty (R331, without the branch term). -/
def tableCycles (i : Instr) (s : State) : Nat :=
  i.entry.baseCycles.getD 0 + (if i.entry.pagePenalty = true ∧ crossedOf i s = true then 1 else 0)

/-- One entry of an `Encoding:` line: opcode byte, mode, base cycles, and whether a page cross adds one (R130). -/
abbrev EncodingRow := Byte × Mode × Option Nat × Bool

/-- The opcode table gives the operation `op` exactly the rows of its rule's `Encoding:` line. -/
def Encoded (op : Operation) (rows : List EncodingRow) : Prop :=
  ∀ o : Byte, (opcodeTable o).op = op ↔
    (o, (opcodeTable o).mode, (opcodeTable o).baseCycles, (opcodeTable o).pagePenalty) ∈ rows

/-- How an instruction of fixed flow ends: `PC` past its bytes, its cycle count, the label `Executed` (R82, R130, R331). -/
def finished (i : Instr) (s t : State) : State :=
  { t with pc := s.pc + BitVec.ofNat 16 i.length, cycles := BitVec.ofNat 32 (tableCycles i s), outcome := .executed }

/-- The flags after `SetNZ(v)` (R28). -/
def nz (v : Byte) (f : Flags) : Flags := { f with z := decide (v = 0), n := v.getLsbD 7 }

/-- The flags after `Compare(r, m)` (R151). -/
def compared (r m : Byte) (f : Flags) : Flags := { nz (r - m) f with c := decide (m ≤ r) }

/-- The flag value of `V` for a signed result: it lies outside -128 to 127 (R150). -/
def outOfRange (t : Int) : Bool := decide (t < -128 ∨ 127 < t)

/-- `A` and the flags after adding `m` and a carry to `A` (R150, R152). -/
def added (m : Byte) (c : Bool) (s : State) : State :=
  let t := s.a.toNat + m.toNat + c.toNat
  { s with
    a := BitVec.ofNat 8 t
    flags := { nz (BitVec.ofNat 8 t) s.flags with
      c := decide (255 < t), v := outOfRange (s.a.toInt + m.toInt + (c.toNat : Int)) } }

/-- `A` and the flags after subtracting `m` and the borrow `1 - c` from `A` (R150, R153). -/
def subtracted (m : Byte) (c : Bool) (s : State) : State :=
  let borrow : Nat := 1 - c.toNat
  let r : Byte := s.a - m - BitVec.ofNat 8 borrow
  { s with
    a := r
    flags := { nz r s.flags with
      c := decide (m.toNat + borrow ≤ s.a.toNat), v := outOfRange (s.a.toInt - m.toInt - (borrow : Int)) } }

/-- The addresses an instruction stores to, computed as its meaning computes them (R117, R118, R201, R210, R211, R222, R266). -/
def storedAddrs (i : Instr) (s : State) : List Addr :=
  match i.entry.op, i.operand with
  | .STA, .mem m | .STX, .mem m | .STY, .mem m | .SAX, .mem m => [(resolve m s).ea]
  | .ASL, .mem m | .LSR, .mem m | .ROL, .mem m | .ROR, .mem m | .INC, .mem m | .DEC, .mem m => [(resolve m s).ea]
  | .SLO, .mem m | .RLA, .mem m | .SRE, .mem m | .RRA, .mem m | .DCP, .mem m | .ISC, .mem m => [(resolve m s).ea]
  | .SHA, .mem m | .TAS, .mem m => [unstableAddr (s.a &&& s.x) (resolve m s)]
  | .SHX, .mem m => [unstableAddr s.x (resolve m s)]
  | .SHY, .mem m => [unstableAddr s.y (resolve m s)]
  | .PHA, _ | .PHP, _ => [stackAddr s.sp]
  | .JSR, _ => [stackAddr s.sp, stackAddr (s.sp - 1)]
  | .BRK, _ => [stackAddr s.sp, stackAddr (s.sp - 1), stackAddr (s.sp - 2)]
  | _, _ => []

/-- The stack page is RAM of its own cells, whatever else the host's map holds: in plain memory always (R53, R64). -/
def StackIsRam (bus : BusMap) : Prop := ∀ k : Byte, bus.plainAt (stackAddr k)

/-- The bus after the three pushes of a trap frame, in their order: high byte and low byte of the return address, status (R320). -/
def framed (s : State) (returnAddr : Addr) (status : Byte) : State :=
  ((s.writeMem (stackAddr s.sp) (hiByte returnAddr)).writeMem (stackAddr (s.sp - 1)) (loByte returnAddr)).writeMem
    (stackAddr (s.sp - 2)) status

/-- No push of a trap frame can change what a read at `a` gives; in plain memory, `a` is none of the three addresses. -/
def outsideFrame (s : State) (a : Addr) : Prop :=
  s.bus.reaches (stackAddr s.sp) a = false ∧ s.bus.reaches (stackAddr (s.sp - 1)) a = false ∧
  s.bus.reaches (stackAddr (s.sp - 2)) a = false

/-- What one trap entry does, from `s` to `t` (R321), on any host's bus: the frame of three bytes pushed in the stack page, `S` lowered by 3,
`I` set, `PC` from the vector, read after the pushes, 7 cycles, and nothing else changed but `NMI` pending, which the caller states.
Where the stack page is RAM the frame can be read back, every byte outside it reads as before, and a vector outside it is the one that
stood there before. -/
def TrapTaken (s t : State) (returnAddr : Addr) (status : Byte) (vector : Addr) (label : StepLabel) : Prop :=
  t = { framed s returnAddr status with
    sp := s.sp - 3
    flags := { s.flags with i := true }
    pc := wordOf ((framed s returnAddr status).readMem (vector + 1)) ((framed s returnAddr status).readMem vector)
    nmiPending := t.nmiPending
    cycles := 7
    outcome := label } ∧
  (StackIsRam s.bus →
    t.readMem (stackAddr s.sp) = hiByte returnAddr ∧
    t.readMem (stackAddr (s.sp - 1)) = loByte returnAddr ∧
    t.readMem (stackAddr (s.sp - 2)) = status) ∧
  (∀ a : Addr, outsideFrame s a → t.readMem a = s.readMem a) ∧
  (outsideFrame s vector → outsideFrame s (vector + 1) →
    t.pc = wordOf (s.readMem (vector + 1)) (s.readMem vector)) ∧
  (s.bus = [] → StackIsRam s.bus ∧
    ∀ a : Addr, outsideFrame s a ↔ a ≠ stackAddr s.sp ∧ a ≠ stackAddr (s.sp - 1) ∧ a ≠ stackAddr (s.sp - 2))

/-- The operations that declare `N` (R34). -/
def writesN : Operation → Bool
  | .LDA | .LDX | .LDY | .TAX | .TAY | .TXA | .TYA | .TSX | .PLA | .AND | .ORA | .EOR | .INC | .DEC | .INX | .INY | .DEX
  | .DEY | .LAX | .LAS | .ANE | .LXA | .ASL | .LSR | .ROL | .ROR | .CMP | .CPX | .CPY | .SLO | .RLA | .SRE | .DCP | .ANC
  | .ALR | .SBX | .ADC | .SBC | .RRA | .ISC | .USBC | .ARR | .BIT | .PLP | .RTI => true
  | _ => false

/-- The operations that declare `Z`: the same as `N` (R34). -/
def writesZ (op : Operation) : Bool := writesN op

/-- The operations that declare `C` (R34). -/
def writesC : Operation → Bool
  | .ASL | .LSR | .ROL | .ROR | .CMP | .CPX | .CPY | .SLO | .RLA | .SRE | .DCP | .ANC | .ALR | .SBX | .ADC | .SBC | .RRA
  | .ISC | .USBC | .ARR | .CLC | .SEC | .PLP | .RTI => true
  | _ => false

/-- The operations that declare `V` (R34). -/
def writesV : Operation → Bool
  | .ADC | .SBC | .RRA | .ISC | .USBC | .ARR | .BIT | .CLV | .PLP | .RTI => true
  | _ => false

/-- The operations that declare `I` (R34). -/
def writesI : Operation → Bool
  | .CLI | .SEI | .BRK | .PLP | .RTI => true
  | _ => false

/-- The operations that declare `D` (R34). -/
def writesD : Operation → Bool
  | .CLD | .SED | .PLP | .RTI => true
  | _ => false

/-- The instructions that write `A` (R41); a shift writes it in its accumulator form. -/
def writesA (i : Instr) : Bool :=
  match i.entry.op with
  | .LDA | .TXA | .TYA | .PLA | .ADC | .SBC | .AND | .ORA | .EOR | .LAX | .SLO | .RLA | .SRE | .RRA | .ISC | .ANC | .ALR | .ARR
  | .USBC | .LAS | .ANE | .LXA => true
  | .ASL | .LSR | .ROL | .ROR => i.entry.mode == .acc
  | _ => false

/-- The operations that write `X` (R41). -/
def writesX : Operation → Bool
  | .LDX | .TAX | .TSX | .INX | .DEX | .LAX | .SBX | .LAS | .LXA => true
  | _ => false

/-- The operations that write `Y` (R41). -/
def writesY : Operation → Bool
  | .LDY | .TAY | .INY | .DEY => true
  | _ => false

/-- The operations that write `S` (R41). -/
def writesS : Operation → Bool
  | .TXS | .PHA | .PHP | .PLA | .PLP | .JSR | .RTS | .BRK | .RTI | .TAS | .LAS => true
  | _ => false

/-- The operations that read or write `D`: only these can tell its value (R31). -/
def touchesD : Operation → Bool
  | .SED | .CLD | .PLP | .RTI | .PHP | .BRK => true
  | _ => false

/-- `s` with the Decimal flag set to `d`. -/
def withD (d : Bool) (s : State) : State := { s with flags := { s.flags with d := d } }

/-- An outcome with `f` applied to its next state. -/
def mapNext (f : State → State) : Result → Result
  | .next t => .next (f t)
  | .fault r => .fault r
  | .refused r => .refused r

/-- The condition each branch tests (R191 to R198). -/
def branchCondition (op : Operation) (f : Flags) : Bool :=
  match op with
  | .BCC => f.c == false
  | .BCS => f.c == true
  | .BEQ => f.z == true
  | .BNE => f.z == false
  | .BMI => f.n == true
  | .BPL => f.n == false
  | .BVC => f.v == false
  | .BVS => f.v == true
  | _ => false

/-- The flags PLP and RTI load from a pulled byte: bits 5 and 4 are ignored (R213, R223). -/
def loaded (p : Byte) (f : Flags) : Flags :=
  { n := p.getLsbD 7, v := p.getLsbD 6, b := f.b, d := p.getLsbD 3, i := p.getLsbD 2, z := p.getLsbD 1, c := p.getLsbD 0 }

end Sys2Proof.Claims

open Sys2Proof.Claims

/-! ### Encoding -/

/-- Decoding the bytes of any instruction gives it back and leaves the bytes after it (R81, R83, R85). -/
def Obligations.DecodeOfEncodeIsTheInstruction : Prop :=
  ∀ (i : Instr) (rest : List Byte), decode (encode i ++ rest) = .instr i rest

/-- Whatever the decoder reads, encoding it gives back exactly the bytes it consumed, so a word has one meaning (R80, R83). -/
def Obligations.EncodeOfDecodeIsTheBytes : Prop :=
  ∀ (bytes : List Byte) (i : Instr) (rest : List Byte), decode bytes = .instr i rest → encode i ++ rest = bytes

/-- Every opcode decodes as soon as its operand bytes are there, the table alone giving their number, and a string that ends
before them is refused as truncated (R84, R89). -/
def Obligations.DecoderRefusesOnlyTruncatedBytes : Prop :=
  ∀ (opcode : Byte) (rest : List Byte),
    (operandBytes opcode ≤ rest.length →
      ∃ i, decode (opcode :: rest) = .instr i (rest.drop (operandBytes opcode)) ∧ i.opcode = opcode ∧
        i.length = 1 + operandBytes opcode) ∧
    (rest.length < operandBytes opcode → decode (opcode :: rest) = .refused (.truncated opcode))

/-- A few words written out from the map of R86 decode to the instructions they stand for. -/
def Obligations.WordsOfTheOpcodeMapDecode : Prop :=
  decode [0x00] = .instr .brk [] ∧
  decode [0xA9, 0x10] = .instr (.ldaImm 0x10) [] ∧
  decode [0xBD, 0xFF, 0x12] = .instr (.ldaAbx 0x12FF) [] ∧
  decode [0x6C, 0xFF, 0x30] = .instr (.jmpInd 0x30FF) [] ∧
  decode [0xF0, 0x20] = .instr (.beq 0x20) [] ∧
  decode [0x6A] = .instr .rorAcc [] ∧
  decode [0x93, 0x10] = .instr (.shaIzy 0x10) [] ∧
  decode [0xEB, 0xF0] = .instr (.usbc 0xF0) [] ∧
  decode [0x02] = .instr .jam02 []

/-- `page_penalty = 1` exactly for the read-class opcodes of modes `abx`, `aby` and `izy` (R115). -/
def Obligations.PagePenaltyExactlyForIndexedReads : Prop :=
  ∀ i : Instr, i.entry.pagePenalty = true ↔
    i.entry.cls = .read ∧ (i.entry.mode = .abx ∨ i.entry.mode = .aby ∨ i.entry.mode = .izy)

/-! ### The step -/

/-- A step never fails, for any state and so for any of the 256 opcode values (R14). -/
def Obligations.EveryStepSucceeds : Prop :=
  ∀ s : State, ∃ t, Machine.step s = .next t

/-- Away from interrupts a step runs the instruction that the bytes at `PC` decode to, and does nothing around it: `exec` takes the
state with `PC` at the opcode (the model's convention, log entry 9). -/
def Obligations.StepRunsTheDecodedInstruction : Prop :=
  ∀ (s : State) (i : Instr) (rest : List Byte),
    s.halted = false → s.nmiPending = false → (s.irqLine = false ∨ s.flags.i = true) →
    decode [s.readMem s.pc, s.readMem (s.pc + 1), s.readMem (s.pc + 2)] = .instr i rest →
    Machine.step s = exec i s

/-- Every instruction but JAM completes with the count of the table: base cycles, the page-cross penalty, and the branch term, which
is 0 not taken, 1 taken inside the page of the next instruction, 2 taken out of it; the smallest is 2 and the largest 8 (R331). -/
def Obligations.CycleCountFollowsTheTable : Prop :=
  ∀ (i : Instr) (s : State) (base : Nat), i.entry.baseCycles = some base →
    ∃ t, exec i s = .next t ∧
      t.cycles = BitVec.ofNat 32 (base
        + (if i.entry.pagePenalty = true ∧ crossedOf i s = true then 1 else 0)
        + (match i.operand with
           | .rel _ =>
             if branchCondition i.entry.op s.flags = true then
               (if hiByte t.pc = hiByte (s.pc + 2) then 1 else 2) else 0
           | _ => 0)) ∧
      2 ≤ t.cycles ∧ t.cycles ≤ 8 ∧
      t.outcome = (if i.entry.op = .BRK then StepLabel.brk else StepLabel.executed)

/-- What the last step returned carries nothing to the next one: two states that differ only in the cycle accumulator and the outcome label have
the same next step, result included (R37, R330). -/
def Obligations.CycleAccumulatorCarriesNothing : Prop :=
  ∀ (s : State) (c : CycleCount) (label : StepLabel), Machine.step { s with cycles := c, outcome := label } = Machine.step s

/-- A step of a halted core makes no bus access and returns `(Halted, JAM_CYCLES)`, changing nothing but that result; and where the
last result was that already, as in every reachable halted state, it changes nothing at all (R302). -/
def Obligations.HaltedStepDoesNothing : Prop :=
  ∀ s : State, s.halted = true →
    Machine.step s = .next { s with cycles := Config.jamCycles, outcome := .halted } ∧
    stepBusActivity s = [] ∧
    (s.Inv → Machine.step s = .next s)

/-- The one sequence of NMI and IRQ: at the boundary of a running core a pending NMI is serviced whatever `I` and the IRQ line are, and its
edge is cleared; without one, an asserted IRQ line with `I = 0` is serviced. The return address is the instruction not yet executed, and the pushed
status has bit 5 set and bit 4 clear (R305, R306, R320). The vectors at 0xFFFA and 0xFFFE are those of log entry 4 (decision D1). -/
def Obligations.InterruptsAreServicedAtTheBoundary : Prop :=
  ∀ s : State, s.halted = false →
    (s.nmiPending = true →
      ∃ t, Machine.step s = .next t ∧ t.nmiPending = false ∧
        TrapTaken s t s.pc ((s.status ||| 0x20) &&& 0xEF) 0xFFFA .nmi) ∧
    (s.nmiPending = false → s.irqLine = true → s.flags.i = false →
      ∃ t, Machine.step s = .next t ∧ t.nmiPending = false ∧
        TrapTaken s t s.pc ((s.status ||| 0x20) &&& 0xEF) 0xFFFE .irq)

/-- After an NMI is serviced no IRQ is taken at the next boundary, asserted or not, because the sequence set `I` (R306). -/
def Obligations.NmiSequenceMasksIrq : Prop :=
  ∀ s t : State, s.halted = false → s.nmiPending = true → Machine.step s = .next t → boundary t = .instruction

/-- The value of `I` at a boundary is the one the instruction just completed left: after CLI an asserted IRQ is taken at the very next
boundary, after SEI none is (R305, R216, R217). -/
def Obligations.InterruptFlagActsAtTheNextBoundary : Prop :=
  ∀ s : State, s.halted = false → s.nmiPending = false → s.irqLine = true →
    (∃ t, exec .cli s = .next t ∧ boundary t = .irq) ∧ (∃ t, exec .sei s = .next t ∧ boundary t = .instruction)

/-- BRK takes the trap at the shared vector, masked or not: it pushes its own address plus 2 and the status with bits 5 and 4 set, and
sets `I` (R222). The vector at 0xFFFE is that of log entry 4 (decision D1). -/
def Obligations.BrkTakesTheTrap : Prop :=
  ∀ s : State, encode .brk = [0x00] ∧ ∃ t, exec .brk s = .next t ∧ t.nmiPending = s.nmiPending ∧
    TrapTaken s t (s.pc + 2) (s.status ||| 0x30) 0xFFFE .brk

/-- RTI pulls the status, ignoring bits 5 and 4, then the low and the high byte of the address, and adds nothing to it (R223). -/
def Obligations.RtiRestoresStatusAndAddress : Prop :=
  ∀ s : State, encode .rti = [0x40] ∧ exec .rti s = .next { s with
    flags := loaded (s.readMem (stackAddr (s.sp + 1))) s.flags
    pc := wordOf (s.readMem (stackAddr (s.sp + 3))) (s.readMem (stackAddr (s.sp + 2)))
    sp := s.sp + 3
    cycles := 6
    outcome := .executed }

/-- RTI right after a trap entry resumes where the trap left off, with the flags, the stack pointer and the registers of before; after
BRK that is two bytes past its opcode (R322, R323). The stack page has to be RAM, as in plain memory it is. -/
def Obligations.RtiUndoesATrapEntry : Prop :=
  ∀ s t : State, StackIsRam s.bus →
    (exec .brk s = .next t →
      ∃ u, exec .rti t = .next u ∧ u.pc = s.pc + 2 ∧ u.flags = s.flags ∧ u.sp = s.sp ∧ u.a = s.a ∧ u.x = s.x ∧ u.y = s.y) ∧
    (boundary s = .nmi ∨ boundary s = .irq → Machine.step s = .next t →
      ∃ u, exec .rti t = .next u ∧ u.pc = s.pc ∧ u.flags = s.flags ∧ u.sp = s.sp ∧ u.a = s.a ∧ u.x = s.x ∧ u.y = s.y)

/-- The Reset sequence: `S` down by 3, `I` set, `halted` and the pending NMI cleared, `PC` from the vector, 7 cycles; everything else,
memory among it, is kept (R310). -/
def Obligations.ResetSequenceEffect : Prop :=
  ∀ s : State, hostAct .reset s = { s with
    sp := s.sp - 3
    flags := { s.flags with i := true }
    halted := false
    nmiPending := false
    pc := wordOf (s.readMem 0xFFFD) (s.readMem 0xFFFC)
    cycles := 7
    outcome := .reset }

/-- After power-on and its Reset, for every draw and every host's bus: `I = 1`, not halted, no interrupt input asserted or pending, `PC` from
the Reset vector 0xFFFC (log entry 4, decision D1), the drawn registers kept, `S` three below its draw (log entry 5, decision D2), and the
host's bus as it was (R42, R340). -/
def Obligations.PowerOnState : Prop :=
  ∀ (draw : PowerOnDraw) (bus : BusMap) (devices : Nat) (mem : Memory),
    let s := powerOn draw bus devices mem
    s.a = draw.a ∧ s.x = draw.x ∧ s.y = draw.y ∧ s.sp = draw.sp - 3 ∧
    s.pc = wordOf (s.readMem 0xFFFD) (s.readMem 0xFFFC) ∧
    (bus = [] → s.pc = wordOf (Memory.read mem 0xFFFD) (Memory.read mem 0xFFFC)) ∧
    s.flags = { draw.flags with i := true } ∧
    s.halted = false ∧ s.nmiPending = false ∧ s.nmiLine = false ∧ s.irqLine = false ∧ s.cycles = 7 ∧
    s.mem = mem ∧ s.bus = bus ∧ s.devices = devices

/-- NMI is an edge: a step from 0 to 1 sets the pending bit, holding or releasing the line sets nothing and clears nothing, and two edges
leave one pending NMI (R303). IRQ is a level: only the line is recorded (R304). -/
def Obligations.InterruptLinesEdgeAndLevel : Prop :=
  ∀ (s : State) (level : Bool),
    hostAct (.setNmi level) s =
      { s with nmiLine := level, nmiPending := (if level = true ∧ s.nmiLine = false then true else s.nmiPending) } ∧
    (s.nmiLine = true → (hostAct (.setNmi true) s).nmiPending = s.nmiPending) ∧
    (hostAct (.setNmi false) s).nmiPending = s.nmiPending ∧
    hostAct (.setIrq level) s = { s with irqLine := level }

/-- A halted core stays halted through any steps and any host actions but Reset; and while the host only drives the interrupt lines, no
register, no flag and no byte of memory changes (R302, R337, R338). -/
def Obligations.OnlyResetLeavesTheHaltedState : Prop :=
  ∀ (events : List Event) (s : State), s.halted = true → Event.host .reset ∉ events →
    ∃ t, runEvents events s = .next t ∧ t.halted = true ∧
      ((∀ e ∈ events, e = .step ∨ (∃ l, e = .host (.setNmi l)) ∨ ∃ l, e = .host (.setIrq l)) →
        t.a = s.a ∧ t.x = s.x ∧ t.y = s.y ∧ t.sp = s.sp ∧ t.pc = s.pc ∧ t.flags = s.flags ∧
        t.mem = s.mem ∧ t.bus = s.bus ∧ t.devices = s.devices)

/-! ### The status register -/

/-- The status byte is `{N, V, 1, B, D, I, Z, C}` (R26); the host's write of it stores seven bits and ignores bit 5, so that reading it back
gives every other bit unchanged, and touches no other state (R27). -/
def Obligations.StatusByteLayoutAndRoundTrip : Prop :=
  ∀ (s : State) (p : Byte),
    s.status.getLsbD 7 = s.flags.n ∧ s.status.getLsbD 6 = s.flags.v ∧ s.status.getLsbD 5 = true ∧
    s.status.getLsbD 4 = s.flags.b ∧ s.status.getLsbD 3 = s.flags.d ∧ s.status.getLsbD 2 = s.flags.i ∧
    s.status.getLsbD 1 = s.flags.z ∧ s.status.getLsbD 0 = s.flags.c ∧
    (hostAct (.writeStatus p) s).status = p ||| 0x20 ∧
    hostAct (.writeStatus p) s = { s with flags := {
      n := p.getLsbD 7, v := p.getLsbD 6, b := p.getLsbD 4, d := p.getLsbD 3, i := p.getLsbD 2, z := p.getLsbD 1,
      c := p.getLsbD 0 } }

/-- Every instruction completes and writes only its declared set of flags; the stored `B` is in none (R33, R34). -/
def Obligations.FlagsOutsideTheDeclaredSetAreKept : Prop :=
  ∀ (i : Instr) (s : State), ∃ t, exec i s = .next t ∧
    (writesN i.entry.op = false → t.flags.n = s.flags.n) ∧
    (writesV i.entry.op = false → t.flags.v = s.flags.v) ∧
    t.flags.b = s.flags.b ∧
    (writesD i.entry.op = false → t.flags.d = s.flags.d) ∧
    (writesI i.entry.op = false → t.flags.i = s.flags.i) ∧
    (writesZ i.entry.op = false → t.flags.z = s.flags.z) ∧
    (writesC i.entry.op = false → t.flags.c = s.flags.c)

/-- No step and no Reset writes the stored Break flag; only the host's write of the status byte does (R33). -/
def Obligations.BreakFlagIsTheHostsAlone : Prop :=
  (∀ s t : State, Machine.step s = .next t → t.flags.b = s.flags.b) ∧
  (∀ (s : State) (act : HostAction), (∀ p, act ≠ .writeStatus p) → (hostAct act s).flags.b = s.flags.b)

/-- The Decimal flag affects no operation: an instruction that neither writes nor pushes it does the same whatever it holds (R31). -/
def Obligations.DecimalFlagIsInert : Prop :=
  ∀ (i : Instr) (s : State) (d : Bool), touchesD i.entry.op = false →
    exec i (withD d s) = mapNext (withD d) (exec i s)

/-! ### Frames over all instructions -/

/-- Every instruction completes and writes `A`, `X`, `Y` and `S` only where the table of R41 lists it. -/
def Obligations.RegistersAreWrittenOnlyAsListed : Prop :=
  ∀ (i : Instr) (s : State), ∃ t, exec i s = .next t ∧
    (writesA i = false → t.a = s.a) ∧
    (writesX i.entry.op = false → t.x = s.x) ∧
    (writesY i.entry.op = false → t.y = s.y) ∧
    (writesS i.entry.op = false → t.sp = s.sp)

/-- Every instruction completes, leaves the interrupt inputs, the pending NMI and the host's map alone, and halts the core exactly if it is a
JAM or the core was halted already (R36, R65). -/
def Obligations.HiddenStateIsKeptByInstructions : Prop :=
  ∀ (i : Instr) (s : State), ∃ t, exec i s = .next t ∧
    t.irqLine = s.irqLine ∧ t.nmiLine = s.nmiLine ∧ t.nmiPending = s.nmiPending ∧ t.bus = s.bus ∧
    t.halted = (if i.entry.op = .JAM then true else s.halted)

/-- Every instruction completes, and every address that no store of it reaches reads as before: an instruction that stores nothing leaves the
host's bus as it was (R116 to R119). In plain memory a store reaches its own address only; under a host's map it also reaches mirrors,
and a store to the host's units reaches every address that reads them (R53, decision D6). -/
def Obligations.MemoryChangesOnlyWhereStored : Prop :=
  ∀ (i : Instr) (s : State), ∃ t, exec i s = .next t ∧
    (∀ a : Addr, (∀ b ∈ storedAddrs i s, s.bus.reaches b a = false) → t.readMem a = s.readMem a) ∧
    (s.bus = [] → ∀ a : Addr, a ∉ storedAddrs i s → t.readMem a = s.readMem a) ∧
    (storedAddrs i s = [] → t.mem = s.mem ∧ t.devices = s.devices)

/-! ### The resolver -/

/-- The effective addresses that no 16-bit index takes part in, as natural numbers: zero-page sums wrap inside the zero page, and a pointer's
second byte does too (R103 to R106, R108, R112). -/
def Obligations.EffectiveAddressOfUnindexedModes : Prop :=
  ∀ (s : State) (z v : Byte) (w : Addr),
    (resolve (.imm v) s).ea = s.pc + 1 ∧ operandByte (.imm v) s = v ∧
    (resolve (.zp z) s).ea.toNat = z.toNat ∧
    (resolve (.zpx z) s).ea.toNat = (z.toNat + s.x.toNat) % 256 ∧
    (resolve (.zpy z) s).ea.toNat = (z.toNat + s.y.toNat) % 256 ∧
    (resolve (.abs w) s).ea = w ∧
    (resolve (.izx z) s).ea.toNat =
      256 * (s.readMem (BitVec.ofNat 16 ((z.toNat + s.x.toNat + 1) % 256))).toNat
        + (s.readMem (BitVec.ofNat 16 ((z.toNat + s.x.toNat) % 256))).toNat

/-- The indexed modes add a zero-extended index to a 16-bit base modulo 65536; the base of IndirectY is the little-endian word at a
zero-page pointer whose second byte wraps (R109, R110, R113). -/
def Obligations.EffectiveAddressOfIndexedModes : Prop :=
  ∀ (s : State) (z : Byte) (w : Addr),
    (resolve (.abx w) s).base = w ∧ (resolve (.abx w) s).ea.toNat = (w.toNat + s.x.toNat) % 65536 ∧
    (resolve (.aby w) s).base = w ∧ (resolve (.aby w) s).ea.toNat = (w.toNat + s.y.toNat) % 65536 ∧
    (resolve (.izy z) s).base.toNat =
      256 * (s.readMem (BitVec.ofNat 16 ((z.toNat + 1) % 256))).toNat + (s.readMem (BitVec.ofNat 16 z.toNat)).toNat ∧
    (resolve (.izy z) s).ea.toNat = ((resolve (.izy z) s).base.toNat + s.y.toNat) % 65536

/-- A page is crossed exactly if the index carries out of the low byte of the base, and only in modes `abx`, `aby`, `izy` (R114). -/
def Obligations.PageCrossingIsTheLowByteCarry : Prop :=
  ∀ (s : State) (m : MemOperand),
    (resolve m s).crossed = true ↔
      (m.mode = .abx ∧ (loByte (resolve m s).base).toNat + s.x.toNat > 255) ∨
      ((m.mode = .aby ∨ m.mode = .izy) ∧ (loByte (resolve m s).base).toNat + s.y.toNat > 255)

/-! ### Memory and the stack -/

/-- A push writes at `{0x01, S}` and then lowers `S` modulo 256, a pull raises `S` and then reads there; where the stack page is RAM, as in
plain memory, pulling after a push gives the byte back with `S` as before, and a push at `S = 0x00` writes `0x0100` and leaves `0xFF`, a
pull at `S = 0xFF` reads `0x0100` and leaves `0x00` (R53, R57, R58, R63). -/
def Obligations.PushThenPullIsTheIdentity : Prop :=
  ∀ (s : State) (v : Byte),
    (stackAddr s.sp).toNat = 256 + s.sp.toNat ∧
    s.push v = { s.writeMem (stackAddr s.sp) v with sp := s.sp - 1 } ∧
    s.pulled = { s with sp := s.sp + 1 } ∧
    (∀ a : Addr, a.toNat = 256 + (s.sp.toNat + 1) % 256 → s.pullByte = s.readMem a) ∧
    (s.push v).pulled.sp = s.sp ∧
    (s.sp = 0x00 → (s.push v).sp = 0xFF) ∧
    (s.sp = 0xFF → s.pullByte = s.readMem 0x0100 ∧ s.pulled.sp = 0x00) ∧
    (StackIsRam s.bus → (s.push v).pullByte = v ∧ (s.sp = 0x00 → (s.push v).readMem 0x0100 = v)) ∧
    (StackIsRam s.bus → ∀ a : Addr, s.bus.plainAt a →
      (s.push v).readMem a = if a.toNat = 256 + s.sp.toNat then v else s.readMem a) ∧
    (s.bus = [] → StackIsRam s.bus ∧ ∀ a : Addr, s.bus.plainAt a)

/-- Memories in canonical form that read the same everywhere are the same data (the model's canonical form of the plain memory of R53). -/
def Obligations.CanonicalMemoriesAreEqualIfTheyReadEqual : Prop :=
  ∀ m₁ m₂ : Memory, Memory.wf m₁ = true → Memory.wf m₂ = true →
    (∀ a : Nat, Memory.read m₁ a = Memory.read m₂ a) → m₁ = m₂

/-! ### Invariants -/

/-- Every step from a state with the invariant gives a state with it: memory stays canonical, and a halted core's last result is
`(Halted, JAM_CYCLES)`. -/
def Obligations.StepKeepsTheInvariant : Prop :=
  ∀ s t : State, s.Inv → Machine.step s = .next t → t.Inv

/-- The state after reset has the invariant, and so has every power-on state over any host's bus with canonical storage. -/
def Obligations.ResetStatesHaveTheInvariant : Prop :=
  State.reset.Inv ∧ ∀ (draw : PowerOnDraw) (bus : BusMap) (devices : Nat) (mem : Memory), Memory.wf mem = true →
    (powerOn draw bus devices mem).Inv

/-- Every state a session of steps and host actions reaches from any power-on has the invariant, and its next step is taken (R14, R338). -/
def Obligations.ReachableStatesAreCanonicalAndStep : Prop :=
  ∀ s : State, Reachable s → s.Inv ∧ ∃ t, Machine.step s = .next t ∧ Reachable t

/-! ### Bus activity -/

/-- The cycle-by-cycle list of the step's bus accesses has exactly as many entries as the cycle count the step returns, for every step that
neither is halted nor runs a JAM. For every step on every host's bus, performing the list's required writes in order gives the bus the
step leaves; and where no address is written to the host's units, so do all its writes, the dummy ones included (section 4 of
70_reset_and_hazards.md; R12, R66, R331, R332, R353). -/
def Obligations.BusActivityAgreesWithTheStep : Prop :=
  ∀ s : State, ∃ t, Machine.step s = .next t ∧ t.bus = s.bus ∧
    (t.outcome ≠ .halted → t.cycles = BitVec.ofNat 32 (stepBusActivity s).length) ∧
    (let r := replay ((stepBusActivity s).filter BusCycle.required) s
     r.mem = t.mem ∧ r.devices = t.devices) ∧
    ((∀ a : Addr, s.bus.target Window.writes a ≠ .device) →
      let r := replay (stepBusActivity s) s
      r.mem = t.mem ∧ r.devices = t.devices)

/-- Every read-modify-write instruction of memory makes only reads until it has its operand, and ends its bus activity with the read of the
operand, the write of the unmodified byte and the write of the result, all at the effective address; the step itself performs the last write
alone, and where the address is plain memory the result is the byte it then holds (R118, R353, R363). -/
def Obligations.ReadModifyWriteWritesTwice : Prop :=
  ∀ (i : Instr) (m : MemOperand) (s : State), i.entry.cls = .modify → i.operand = .mem m →
    let ea := (resolve m s).ea
    ∃ front new t, exec i s = .next t ∧ (∀ c ∈ front, ∃ a dummy, c = .read a dummy) ∧
      busActivity i s = front ++ [.read ea false, .write ea (s.readMem ea) true, .write ea new false] ∧
      t.mem = (s.writeMem ea new).mem ∧ t.devices = (s.writeMem ea new).devices ∧
      (s.bus.plainAt ea → t.readMem ea = new)

/-! ### The arithmetic unit -/

/-- `AddWithCarry` and its use for subtraction, in natural and signed numbers: the result modulo 256, carry out of an addition, no borrow of a
subtraction, and overflow when the signed result leaves -128 to 127 (R150). -/
def Obligations.AddWithCarryIsExact : Prop :=
  ∀ (a m : Byte) (c : Bool),
    (addWithCarry a m c).sum.toNat = (a.toNat + m.toNat + c.toNat) % 256 ∧
    (addWithCarry a m c).carry = decide (a.toNat + m.toNat + c.toNat > 255) ∧
    (addWithCarry a m c).overflow =
      decide (a.getLsbD 7 = m.getLsbD 7 ∧ (addWithCarry a m c).sum.getLsbD 7 ≠ a.getLsbD 7) ∧
    (addWithCarry a m c).overflow =
      (((a ^^^ (addWithCarry a m c).sum) &&& (m ^^^ (addWithCarry a m c).sum)).getLsbD 7) ∧
    (addWithCarry a (m ^^^ 0xFF) c).sum = a - m - BitVec.ofNat 8 (1 - c.toNat) ∧
    (addWithCarry a (m ^^^ 0xFF) c).carry = decide (m.toNat + (1 - c.toNat) ≤ a.toNat) ∧
    (addWithCarry a (m ^^^ 0xFF) c).overflow = outOfRange (a.toInt - m.toInt - ((1 - c.toNat : Nat) : Int))

/-- The four one-bit shifts as natural numbers (R170). -/
def Obligations.ShiftFunctions : Prop :=
  ∀ (v : Byte) (c : Bool),
    (aslByte v).toNat = v.toNat * 2 % 256 ∧
    (lsrByte v).toNat = v.toNat / 2 ∧
    (rolByte v c).toNat = v.toNat * 2 % 256 + c.toNat ∧
    (rorByte v c).toNat = v.toNat / 2 + 128 * c.toNat ∧
    outLeft v = v.getLsbD 7 ∧ outRight v = v.getLsbD 0

/-! ### Results of the instructions. Each is the whole next state, so each is also the frame of its instructions. -/

/-- LDA, LDX and LDY put the operand byte in their register and set `N` and `Z` from it (R131 to R133). -/
def Obligations.LoadResults : Prop :=
  Encoded .LDA [(0xA9, .imm, some 2, false), (0xA5, .zp, some 3, false), (0xB5, .zpx, some 4, false),
    (0xAD, .abs, some 4, false), (0xBD, .abx, some 4, true), (0xB9, .aby, some 4, true), (0xA1, .izx, some 6, false),
    (0xB1, .izy, some 5, true)] ∧
  Encoded .LDX [(0xA2, .imm, some 2, false), (0xA6, .zp, some 3, false), (0xB6, .zpy, some 4, false),
    (0xAE, .abs, some 4, false), (0xBE, .aby, some 4, true)] ∧
  Encoded .LDY [(0xA0, .imm, some 2, false), (0xA4, .zp, some 3, false), (0xB4, .zpx, some 4, false),
    (0xAC, .abs, some 4, false), (0xBC, .abx, some 4, true)] ∧
  ∀ (i : Instr) (s : State),
    (i.entry.op = .LDA → exec i s = .next (finished i s { s with a := operandOf i s, flags := nz (operandOf i s) s.flags })) ∧
    (i.entry.op = .LDX → exec i s = .next (finished i s { s with x := operandOf i s, flags := nz (operandOf i s) s.flags })) ∧
    (i.entry.op = .LDY → exec i s = .next (finished i s { s with y := operandOf i s, flags := nz (operandOf i s) s.flags }))

/-- STA, STX and STY write their register at the effective address; the undocumented SAX writes `A and X`; no flag changes (R134 to R136, R250). -/
def Obligations.StoreResults : Prop :=
  Encoded .STA [(0x85, .zp, some 3, false), (0x95, .zpx, some 4, false), (0x8D, .abs, some 4, false),
    (0x9D, .abx, some 5, false), (0x99, .aby, some 5, false), (0x81, .izx, some 6, false), (0x91, .izy, some 6, false)] ∧
  Encoded .STX [(0x86, .zp, some 3, false), (0x96, .zpy, some 4, false), (0x8E, .abs, some 4, false)] ∧
  Encoded .STY [(0x84, .zp, some 3, false), (0x94, .zpx, some 4, false), (0x8C, .abs, some 4, false)] ∧
  Encoded .SAX [(0x87, .zp, some 3, false), (0x97, .zpy, some 4, false), (0x8F, .abs, some 4, false),
    (0x83, .izx, some 6, false)] ∧
  ∀ (i : Instr) (m : MemOperand) (s : State), i.operand = .mem m →
    (i.entry.op = .STA → exec i s = .next (finished i s (s.writeMem (resolve m s).ea s.a))) ∧
    (i.entry.op = .STX → exec i s = .next (finished i s (s.writeMem (resolve m s).ea s.x))) ∧
    (i.entry.op = .STY → exec i s = .next (finished i s (s.writeMem (resolve m s).ea s.y))) ∧
    (i.entry.op = .SAX → exec i s = .next (finished i s (s.writeMem (resolve m s).ea (s.a &&& s.x))))

/-- The six register transfers; TXS alone writes no flag (R137 to R142). -/
def Obligations.TransferResults : Prop :=
  Encoded .TAX [(0xAA, .imp, some 2, false)] ∧
  Encoded .TAY [(0xA8, .imp, some 2, false)] ∧
  Encoded .TXA [(0x8A, .imp, some 2, false)] ∧
  Encoded .TYA [(0x98, .imp, some 2, false)] ∧
  Encoded .TSX [(0xBA, .imp, some 2, false)] ∧
  Encoded .TXS [(0x9A, .imp, some 2, false)] ∧
  ∀ (i : Instr) (s : State),
    (i.entry.op = .TAX → exec i s = .next (finished i s { s with x := s.a, flags := nz s.a s.flags })) ∧
    (i.entry.op = .TAY → exec i s = .next (finished i s { s with y := s.a, flags := nz s.a s.flags })) ∧
    (i.entry.op = .TXA → exec i s = .next (finished i s { s with a := s.x, flags := nz s.x s.flags })) ∧
    (i.entry.op = .TYA → exec i s = .next (finished i s { s with a := s.y, flags := nz s.y s.flags })) ∧
    (i.entry.op = .TSX → exec i s = .next (finished i s { s with x := s.sp, flags := nz s.sp s.flags })) ∧
    (i.entry.op = .TXS → exec i s = .next (finished i s { s with sp := s.x }))

/-- ADC adds the operand and the carry to `A`; SBC and its undocumented alias USBC subtract the operand and the borrow; both write `N V Z C`,
binary whatever `D` holds (R152, R153, R258). -/
def Obligations.AddAndSubtractResults : Prop :=
  Encoded .ADC [(0x69, .imm, some 2, false), (0x65, .zp, some 3, false), (0x75, .zpx, some 4, false),
    (0x6D, .abs, some 4, false), (0x7D, .abx, some 4, true), (0x79, .aby, some 4, true), (0x61, .izx, some 6, false),
    (0x71, .izy, some 5, true)] ∧
  Encoded .SBC [(0xE9, .imm, some 2, false), (0xE5, .zp, some 3, false), (0xF5, .zpx, some 4, false),
    (0xED, .abs, some 4, false), (0xFD, .abx, some 4, true), (0xF9, .aby, some 4, true), (0xE1, .izx, some 6, false),
    (0xF1, .izy, some 5, true)] ∧
  Encoded .USBC [(0xEB, .imm, some 2, false)] ∧
  ∀ (i : Instr) (s : State),
    (i.entry.op = .ADC → exec i s = .next (finished i s (added (operandOf i s) s.flags.c s))) ∧
    (i.entry.op = .SBC ∨ i.entry.op = .USBC → exec i s = .next (finished i s (subtracted (operandOf i s) s.flags.c s)))

/-- AND, ORA and EOR put the bitwise result in `A` and set `N` and `Z` from it (R154 to R156). -/
def Obligations.LogicResults : Prop :=
  Encoded .AND [(0x29, .imm, some 2, false), (0x25, .zp, some 3, false), (0x35, .zpx, some 4, false),
    (0x2D, .abs, some 4, false), (0x3D, .abx, some 4, true), (0x39, .aby, some 4, true), (0x21, .izx, some 6, false),
    (0x31, .izy, some 5, true)] ∧
  Encoded .ORA [(0x09, .imm, some 2, false), (0x05, .zp, some 3, false), (0x15, .zpx, some 4, false),
    (0x0D, .abs, some 4, false), (0x1D, .abx, some 4, true), (0x19, .aby, some 4, true), (0x01, .izx, some 6, false),
    (0x11, .izy, some 5, true)] ∧
  Encoded .EOR [(0x49, .imm, some 2, false), (0x45, .zp, some 3, false), (0x55, .zpx, some 4, false),
    (0x4D, .abs, some 4, false), (0x5D, .abx, some 4, true), (0x59, .aby, some 4, true), (0x41, .izx, some 6, false),
    (0x51, .izy, some 5, true)] ∧
  ∀ (i : Instr) (s : State),
    (i.entry.op = .AND → exec i s = .next (finished i s
      { s with a := s.a &&& operandOf i s, flags := nz (s.a &&& operandOf i s) s.flags })) ∧
    (i.entry.op = .ORA → exec i s = .next (finished i s
      { s with a := s.a ||| operandOf i s, flags := nz (s.a ||| operandOf i s) s.flags })) ∧
    (i.entry.op = .EOR → exec i s = .next (finished i s
      { s with a := s.a ^^^ operandOf i s, flags := nz (s.a ^^^ operandOf i s) s.flags }))

/-- CMP, CPX and CPY write `N Z C` of the comparison and nothing else; BIT copies bits 7 and 6 of the operand to `N` and `V` and sets `Z` from the
and with `A` (R157 to R160). -/
def Obligations.CompareAndBitResults : Prop :=
  Encoded .CMP [(0xC9, .imm, some 2, false), (0xC5, .zp, some 3, false), (0xD5, .zpx, some 4, false),
    (0xCD, .abs, some 4, false), (0xDD, .abx, some 4, true), (0xD9, .aby, some 4, true), (0xC1, .izx, some 6, false),
    (0xD1, .izy, some 5, true)] ∧
  Encoded .CPX [(0xE0, .imm, some 2, false), (0xE4, .zp, some 3, false), (0xEC, .abs, some 4, false)] ∧
  Encoded .CPY [(0xC0, .imm, some 2, false), (0xC4, .zp, some 3, false), (0xCC, .abs, some 4, false)] ∧
  Encoded .BIT [(0x24, .zp, some 3, false), (0x2C, .abs, some 4, false)] ∧
  ∀ (i : Instr) (s : State),
    (i.entry.op = .CMP → exec i s = .next (finished i s { s with flags := compared s.a (operandOf i s) s.flags })) ∧
    (i.entry.op = .CPX → exec i s = .next (finished i s { s with flags := compared s.x (operandOf i s) s.flags })) ∧
    (i.entry.op = .CPY → exec i s = .next (finished i s { s with flags := compared s.y (operandOf i s) s.flags })) ∧
    (i.entry.op = .BIT → exec i s = .next (finished i s { s with flags := { s.flags with
      z := decide (s.a &&& operandOf i s = 0), n := (operandOf i s).getLsbD 7, v := (operandOf i s).getLsbD 6 } }))

/-- The shifts and rotates, on `A` or on the byte at the effective address: the result goes back where the operand was, `C` is the bit shifted out
(R171 to R174, R181). -/
def Obligations.ShiftResults : Prop :=
  Encoded .ASL [(0x0A, .acc, some 2, false), (0x06, .zp, some 5, false), (0x16, .zpx, some 6, false),
    (0x0E, .abs, some 6, false), (0x1E, .abx, some 7, false)] ∧
  Encoded .LSR [(0x4A, .acc, some 2, false), (0x46, .zp, some 5, false), (0x56, .zpx, some 6, false),
    (0x4E, .abs, some 6, false), (0x5E, .abx, some 7, false)] ∧
  Encoded .ROL [(0x2A, .acc, some 2, false), (0x26, .zp, some 5, false), (0x36, .zpx, some 6, false),
    (0x2E, .abs, some 6, false), (0x3E, .abx, some 7, false)] ∧
  Encoded .ROR [(0x6A, .acc, some 2, false), (0x66, .zp, some 5, false), (0x76, .zpx, some 6, false),
    (0x6E, .abs, some 6, false), (0x7E, .abx, some 7, false)] ∧
  ∀ (i : Instr) (s : State),
    (i.entry.op = .ASL → exec i s = .next (finished i s (putBack i s (operandOf i s <<< 1)
      { s with flags := { nz (operandOf i s <<< 1) s.flags with c := (operandOf i s).getLsbD 7 } }))) ∧
    (i.entry.op = .LSR → exec i s = .next (finished i s (putBack i s (operandOf i s >>> 1)
      { s with flags := { nz (operandOf i s >>> 1) s.flags with c := (operandOf i s).getLsbD 0 } }))) ∧
    (i.entry.op = .ROL →
      let r := operandOf i s <<< 1 ||| (if s.flags.c = true then 0x01 else 0x00)
      exec i s = .next (finished i s (putBack i s r
        { s with flags := { nz r s.flags with c := (operandOf i s).getLsbD 7 } }))) ∧
    (i.entry.op = .ROR →
      let r := operandOf i s >>> 1 ||| (if s.flags.c = true then 0x80 else 0x00)
      exec i s = .next (finished i s (putBack i s r
        { s with flags := { nz r s.flags with c := (operandOf i s).getLsbD 0 } })))

/-- INC and DEC on memory, INX, INY, DEX and DEY: modulo 256, `N` and `Z` from the result, neither `C` nor `V` (R175 to R180). -/
def Obligations.IncrementAndDecrementResults : Prop :=
  Encoded .INC [(0xE6, .zp, some 5, false), (0xF6, .zpx, some 6, false), (0xEE, .abs, some 6, false),
    (0xFE, .abx, some 7, false)] ∧
  Encoded .DEC [(0xC6, .zp, some 5, false), (0xD6, .zpx, some 6, false), (0xCE, .abs, some 6, false),
    (0xDE, .abx, some 7, false)] ∧
  Encoded .INX [(0xE8, .imp, some 2, false)] ∧
  Encoded .INY [(0xC8, .imp, some 2, false)] ∧
  Encoded .DEX [(0xCA, .imp, some 2, false)] ∧
  Encoded .DEY [(0x88, .imp, some 2, false)] ∧
  ∀ (i : Instr) (s : State),
    (i.entry.op = .INC → exec i s = .next (finished i s (putBack i s (operandOf i s + 1)
      { s with flags := nz (operandOf i s + 1) s.flags }))) ∧
    (i.entry.op = .DEC → exec i s = .next (finished i s (putBack i s (operandOf i s - 1)
      { s with flags := nz (operandOf i s - 1) s.flags }))) ∧
    (i.entry.op = .INX → exec i s = .next (finished i s { s with x := s.x + 1, flags := nz (s.x + 1) s.flags })) ∧
    (i.entry.op = .INY → exec i s = .next (finished i s { s with y := s.y + 1, flags := nz (s.y + 1) s.flags })) ∧
    (i.entry.op = .DEX → exec i s = .next (finished i s { s with x := s.x - 1, flags := nz (s.x - 1) s.flags })) ∧
    (i.entry.op = .DEY → exec i s = .next (finished i s { s with y := s.y - 1, flags := nz (s.y - 1) s.flags }))

/-- The eight branches: taken exactly on their condition, to the signed displacement from the next instruction's address modulo 65536, in 3 cycles
inside that page and 4 out of it; else the next instruction in 2 cycles; nothing else changes (R190 to R198). -/
def Obligations.BranchResults : Prop :=
  Encoded .BCC [(0x90, .rel, some 2, false)] ∧
  Encoded .BCS [(0xB0, .rel, some 2, false)] ∧
  Encoded .BEQ [(0xF0, .rel, some 2, false)] ∧
  Encoded .BNE [(0xD0, .rel, some 2, false)] ∧
  Encoded .BMI [(0x30, .rel, some 2, false)] ∧
  Encoded .BPL [(0x10, .rel, some 2, false)] ∧
  Encoded .BVC [(0x50, .rel, some 2, false)] ∧
  Encoded .BVS [(0x70, .rel, some 2, false)] ∧
  ∀ (i : Instr) (d : Byte) (s : State), i.operand = .rel d →
    let target := BitVec.ofInt 16 (((s.pc + 2).toNat : Int) + d.toInt)
    exec i s = .next (
      if branchCondition i.entry.op s.flags = true then
        { s with pc := target, cycles := (if hiByte target = hiByte (s.pc + 2) then 3 else 4), outcome := .executed }
      else { s with pc := s.pc + 2, cycles := 2, outcome := .executed })

/-- JMP absolute goes to its operand word; JMP indirect reads its target through the pointer, the high byte from the same page (R199, R200). -/
def Obligations.JumpResults : Prop :=
  ∀ (w : Addr) (s : State),
    encode (.jmpAbs w) = [0x4C, loByte w, hiByte w] ∧ encode (.jmpInd w) = [0x6C, loByte w, hiByte w] ∧
    exec (.jmpAbs w) s = .next { s with pc := w, cycles := 3, outcome := .executed } ∧
    exec (.jmpInd w) s = .next { s with
      pc := wordOf (s.readMem (BitVec.ofNat 16 (256 * (w.toNat / 256) + (w.toNat + 1) % 256))) (s.readMem w)
      cycles := 5
      outcome := .executed }

/-- JSR pushes the address of its last byte, high byte first, then reads its high operand byte, so that a push that reaches that byte changes
what is read; where no push does and memory holds the instruction, the target is its operand word (R201). -/
def Obligations.JsrResult : Prop :=
  ∀ (w : Addr) (s : State),
    let last := s.pc + 2
    let pushed := (s.writeMem (stackAddr s.sp) (hiByte last)).writeMem (stackAddr (s.sp - 1)) (loByte last)
    encode (.jsr w) = [0x20, loByte w, hiByte w] ∧
    exec (.jsr w) s = .next { pushed with
      sp := s.sp - 2
      pc := wordOf (pushed.readMem last) (loByte w)
      cycles := 6
      outcome := .executed } ∧
    (StackIsRam s.bus → s.bus.plainAt last → pushed.readMem last =
      if last = stackAddr (s.sp - 1) then loByte last else if last = stackAddr s.sp then hiByte last else s.readMem last) ∧
    (s.bus.reaches (stackAddr s.sp) last = false → s.bus.reaches (stackAddr (s.sp - 1)) last = false →
      s.readMem last = hiByte w → ∃ t, exec (.jsr w) s = .next t ∧ t.pc = w) ∧
    (s.bus = [] → StackIsRam s.bus ∧ s.bus.plainAt last ∧ ∀ k : Byte, s.bus.reaches (stackAddr k) last = decide (last = stackAddr k))

/-- RTS pulls an address, low byte first, and resumes one past it (R202). -/
def Obligations.RtsResult : Prop :=
  ∀ s : State, encode .rts = [0x60] ∧ exec .rts s = .next { s with
    sp := s.sp + 2
    pc := wordOf (s.readMem (stackAddr (s.sp + 2))) (s.readMem (stackAddr (s.sp + 1))) + 1
    cycles := 6
    outcome := .executed }

/-- RTS undoes JSR: it resumes at the byte after the JSR's last byte, with the stack pointer as before (R201, R202). The stack page has to be
RAM, as in plain memory it is. -/
def Obligations.RtsUndoesJsr : Prop :=
  ∀ (w : Addr) (s t : State), StackIsRam s.bus → exec (.jsr w) s = .next t →
    ∃ u, exec .rts t = .next u ∧ u.pc = s.pc + 3 ∧ u.sp = s.sp ∧ u.a = s.a ∧ u.x = s.x ∧ u.y = s.y ∧ u.flags = s.flags

/-- PHA and PHP push one byte, PHP the status with bits 5 and 4 set; PLA and PLP pull one, PLA setting `N` and `Z`, PLP loading every flag but
`B` (R210 to R213). -/
def Obligations.StackInstructionResults : Prop :=
  Encoded .PHA [(0x48, .imp, some 3, false)] ∧
  Encoded .PHP [(0x08, .imp, some 3, false)] ∧
  Encoded .PLA [(0x68, .imp, some 4, false)] ∧
  Encoded .PLP [(0x28, .imp, some 4, false)] ∧
  ∀ (i : Instr) (s : State),
    let pulled := s.readMem (stackAddr (s.sp + 1))
    (i.entry.op = .PHA → exec i s = .next (finished i s { s.writeMem (stackAddr s.sp) s.a with sp := s.sp - 1 })) ∧
    (i.entry.op = .PHP → exec i s = .next (finished i s { s.writeMem (stackAddr s.sp) (s.status ||| 0x30) with sp := s.sp - 1 })) ∧
    (i.entry.op = .PLA → exec i s = .next (finished i s { s with sp := s.sp + 1, a := pulled, flags := nz pulled s.flags })) ∧
    (i.entry.op = .PLP → exec i s = .next (finished i s { s with sp := s.sp + 1, flags := loaded pulled s.flags }))

/-- The flag instructions write exactly one flag each (R214 to R220). -/
def Obligations.FlagInstructionResults : Prop :=
  Encoded .CLC [(0x18, .imp, some 2, false)] ∧
  Encoded .SEC [(0x38, .imp, some 2, false)] ∧
  Encoded .CLI [(0x58, .imp, some 2, false)] ∧
  Encoded .SEI [(0x78, .imp, some 2, false)] ∧
  Encoded .CLV [(0xB8, .imp, some 2, false)] ∧
  Encoded .CLD [(0xD8, .imp, some 2, false)] ∧
  Encoded .SED [(0xF8, .imp, some 2, false)] ∧
  ∀ (i : Instr) (s : State),
    (i.entry.op = .CLC → exec i s = .next (finished i s { s with flags := { s.flags with c := false } })) ∧
    (i.entry.op = .SEC → exec i s = .next (finished i s { s with flags := { s.flags with c := true } })) ∧
    (i.entry.op = .CLI → exec i s = .next (finished i s { s with flags := { s.flags with i := false } })) ∧
    (i.entry.op = .SEI → exec i s = .next (finished i s { s with flags := { s.flags with i := true } })) ∧
    (i.entry.op = .CLV → exec i s = .next (finished i s { s with flags := { s.flags with v := false } })) ∧
    (i.entry.op = .CLD → exec i s = .next (finished i s { s with flags := { s.flags with d := false } })) ∧
    (i.entry.op = .SED → exec i s = .next (finished i s { s with flags := { s.flags with d := true } }))

/-- The documented NOP and all 27 undocumented ones only move `PC` past their bytes and take their cycles; those with a memory operand end with the
read of the byte they discard (R221, R241 to R244). -/
def Obligations.NopResults : Prop :=
  Encoded .NOP [(0x1A, .imp, some 2, false), (0x3A, .imp, some 2, false), (0x5A, .imp, some 2, false),
    (0x7A, .imp, some 2, false), (0xDA, .imp, some 2, false), (0xEA, .imp, some 2, false), (0xFA, .imp, some 2, false),
    (0x80, .imm, some 2, false), (0x82, .imm, some 2, false), (0x89, .imm, some 2, false), (0xC2, .imm, some 2, false),
    (0xE2, .imm, some 2, false), (0x04, .zp, some 3, false), (0x44, .zp, some 3, false), (0x64, .zp, some 3, false),
    (0x14, .zpx, some 4, false), (0x34, .zpx, some 4, false), (0x54, .zpx, some 4, false), (0x74, .zpx, some 4, false),
    (0xD4, .zpx, some 4, false), (0xF4, .zpx, some 4, false), (0x0C, .abs, some 4, false), (0x1C, .abx, some 4, true),
    (0x3C, .abx, some 4, true), (0x5C, .abx, some 4, true), (0x7C, .abx, some 4, true), (0xDC, .abx, some 4, true),
    (0xFC, .abx, some 4, true)] ∧
  ∀ (i : Instr) (s : State), i.entry.op = .NOP →
    exec i s = .next (finished i s s) ∧
    ∀ m, i.operand = .mem m → (busActivity i s).getLast? = some (.read (resolve m s).ea false)

/-- JAM halts the core with `PC` one past the opcode and `JAM_CYCLES`, for every value of that constant; nothing else changes (R245). -/
def Obligations.JamHalts : Prop :=
  Encoded .JAM [(0x02, .imp, none, false), (0x12, .imp, none, false), (0x22, .imp, none, false), (0x32, .imp, none, false),
    (0x42, .imp, none, false), (0x52, .imp, none, false), (0x62, .imp, none, false), (0x72, .imp, none, false),
    (0x92, .imp, none, false), (0xB2, .imp, none, false), (0xD2, .imp, none, false), (0xF2, .imp, none, false)] ∧
  ∀ (i : Instr) (s : State), i.entry.op = .JAM →
    exec i s = .next { s with pc := s.pc + 1, halted := true, cycles := Config.jamCycles, outcome := .halted }

/-- The six read-modify-write combinations: the changed byte is written back and then combined with `A` (R246 to R249, R252, R253). -/
def Obligations.CombinedReadModifyWriteResults : Prop :=
  Encoded .SLO [(0x07, .zp, some 5, false), (0x17, .zpx, some 6, false), (0x0F, .abs, some 6, false),
    (0x1F, .abx, some 7, false), (0x1B, .aby, some 7, false), (0x03, .izx, some 8, false), (0x13, .izy, some 8, false)] ∧
  Encoded .RLA [(0x27, .zp, some 5, false), (0x37, .zpx, some 6, false), (0x2F, .abs, some 6, false),
    (0x3F, .abx, some 7, false), (0x3B, .aby, some 7, false), (0x23, .izx, some 8, false), (0x33, .izy, some 8, false)] ∧
  Encoded .SRE [(0x47, .zp, some 5, false), (0x57, .zpx, some 6, false), (0x4F, .abs, some 6, false),
    (0x5F, .abx, some 7, false), (0x5B, .aby, some 7, false), (0x43, .izx, some 8, false), (0x53, .izy, some 8, false)] ∧
  Encoded .RRA [(0x67, .zp, some 5, false), (0x77, .zpx, some 6, false), (0x6F, .abs, some 6, false),
    (0x7F, .abx, some 7, false), (0x7B, .aby, some 7, false), (0x63, .izx, some 8, false), (0x73, .izy, some 8, false)] ∧
  Encoded .DCP [(0xC7, .zp, some 5, false), (0xD7, .zpx, some 6, false), (0xCF, .abs, some 6, false),
    (0xDF, .abx, some 7, false), (0xDB, .aby, some 7, false), (0xC3, .izx, some 8, false), (0xD3, .izy, some 8, false)] ∧
  Encoded .ISC [(0xE7, .zp, some 5, false), (0xF7, .zpx, some 6, false), (0xEF, .abs, some 6, false),
    (0xFF, .abx, some 7, false), (0xFB, .aby, some 7, false), (0xE3, .izx, some 8, false), (0xF3, .izy, some 8, false)] ∧
  ∀ (i : Instr) (s : State),
    let m := operandOf i s
    (i.entry.op = .SLO → exec i s = .next (finished i s { putBack i s (m <<< 1) s with
      a := s.a ||| m <<< 1, flags := { nz (s.a ||| m <<< 1) s.flags with c := m.getLsbD 7 } })) ∧
    (i.entry.op = .RLA →
      let r := m <<< 1 ||| (if s.flags.c = true then 0x01 else 0x00)
      exec i s = .next (finished i s { putBack i s r s with
        a := s.a &&& r, flags := { nz (s.a &&& r) s.flags with c := m.getLsbD 7 } })) ∧
    (i.entry.op = .SRE → exec i s = .next (finished i s { putBack i s (m >>> 1) s with
      a := s.a ^^^ m >>> 1, flags := { nz (s.a ^^^ m >>> 1) s.flags with c := m.getLsbD 0 } })) ∧
    (i.entry.op = .RRA →
      let r := m >>> 1 ||| (if s.flags.c = true then 0x80 else 0x00)
      exec i s = .next (finished i s (added r (m.getLsbD 0) (putBack i s r s)))) ∧
    (i.entry.op = .DCP → exec i s = .next (finished i s { putBack i s (m - 1) s with
      flags := compared s.a (m - 1) s.flags })) ∧
    (i.entry.op = .ISC → exec i s = .next (finished i s (subtracted (m + 1) s.flags.c (putBack i s (m + 1) s))))

/-- The stable combinations that store nothing: LAX, ANC, ALR, ARR, SBX, LAS (R251, R254 to R257, R259). -/
def Obligations.CombinedReadResults : Prop :=
  Encoded .LAX [(0xA7, .zp, some 3, false), (0xB7, .zpy, some 4, false), (0xAF, .abs, some 4, false),
    (0xBF, .aby, some 4, true), (0xA3, .izx, some 6, false), (0xB3, .izy, some 5, true)] ∧
  Encoded .ANC [(0x0B, .imm, some 2, false), (0x2B, .imm, some 2, false)] ∧
  Encoded .ALR [(0x4B, .imm, some 2, false)] ∧
  Encoded .ARR [(0x6B, .imm, some 2, false)] ∧
  Encoded .SBX [(0xCB, .imm, some 2, false)] ∧
  Encoded .LAS [(0xBB, .aby, some 4, true)] ∧
  ∀ (i : Instr) (s : State),
    let m := operandOf i s
    (i.entry.op = .LAX → exec i s = .next (finished i s { s with a := m, x := m, flags := nz m s.flags })) ∧
    (i.entry.op = .ANC → exec i s = .next (finished i s { s with
      a := s.a &&& m, flags := { nz (s.a &&& m) s.flags with c := (s.a &&& m).getLsbD 7 } })) ∧
    (i.entry.op = .ALR → exec i s = .next (finished i s { s with
      a := (s.a &&& m) >>> 1, flags := { nz ((s.a &&& m) >>> 1) s.flags with c := (s.a &&& m).getLsbD 0 } })) ∧
    (i.entry.op = .ARR →
      let r := (s.a &&& m) >>> 1 ||| (if s.flags.c = true then 0x80 else 0x00)
      exec i s = .next (finished i s { s with
        a := r, flags := { nz r s.flags with c := r.getLsbD 6, v := r.getLsbD 6 != r.getLsbD 5 } })) ∧
    (i.entry.op = .SBX → exec i s = .next (finished i s { s with
      x := (s.a &&& s.x) - m, flags := compared (s.a &&& s.x) m s.flags })) ∧
    (i.entry.op = .LAS → exec i s = .next (finished i s { s with
      a := m &&& s.sp, x := m &&& s.sp, sp := m &&& s.sp, flags := nz (m &&& s.sp) s.flags }))

/-- ANE and LXA compute with the machine's constants, which have no value here, so this holds for every value of them; where `A` is 0xFF they drop
out, and LXA always loads `A` and `X` with the same byte (R260, R261). -/
def Obligations.UnstableImmediateResults : Prop :=
  Encoded .ANE [(0x8B, .imm, some 2, false)] ∧
  Encoded .LXA [(0xAB, .imm, some 2, false)] ∧
  ∀ (v : Byte) (s : State), encode (.ane v) = [0x8B, v] ∧ encode (.lxa v) = [0xAB, v] ∧
    (let r := (s.a ||| Config.aneMagic) &&& s.x &&& v
     exec (.ane v) s = .next (finished (.ane v) s { s with a := r, flags := nz r s.flags })) ∧
    (let r := (s.a ||| Config.lxaMagic) &&& v
     exec (.lxa v) s = .next (finished (.lxa v) s { s with a := r, x := r, flags := nz r s.flags })) ∧
    (s.a = 0xFF → ∃ t, exec (.lxa v) s = .next t ∧ t.a = v ∧ t.x = v) ∧
    (v = 0x00 → ∃ t, exec (.ane v) s = .next t ∧ t.a = 0x00 ∧ t.flags.z = true)

/-- SHA, SHX, SHY and TAS store the register value and the base's high byte plus one; when the index crosses a page the stored byte is also the high
byte of the address; TAS sets `S` to `A and X` first; no flag changes (R262 to R266). -/
def Obligations.UnstableStoreResults : Prop :=
  Encoded .SHA [(0x9F, .aby, some 5, false), (0x93, .izy, some 6, false)] ∧
  Encoded .SHX [(0x9E, .aby, some 5, false)] ∧
  Encoded .SHY [(0x9C, .abx, some 5, false)] ∧
  Encoded .TAS [(0x9B, .aby, some 5, false)] ∧
  ∀ (i : Instr) (m : MemOperand) (s : State), i.operand = .mem m →
    let stored (r : Byte) (t : State) : State :=
      let v := r &&& BitVec.ofNat 8 ((resolve m s).base.toNat / 256 + 1)
      t.writeMem (if (resolve m s).crossed = true then wordOf v (loByte (resolve m s).ea) else (resolve m s).ea) v
    (i.entry.op = .SHA → exec i s = .next (finished i s (stored (s.a &&& s.x) s))) ∧
    (i.entry.op = .SHX → exec i s = .next (finished i s (stored s.x s))) ∧
    (i.entry.op = .SHY → exec i s = .next (finished i s (stored s.y s))) ∧
    (i.entry.op = .TAS → exec i s = .next (finished i s (stored (s.a &&& s.x) { s with sp := s.a &&& s.x })))
end

