-- ==== Sys2Proof/Laws/Entries.lean ====
section
/-! SUPPORT. The table record and the operand of each instruction, constructor by constructor (spec/30_encoding.md R83, R86), so that a
proof by cases over the instructions unfolds no table. -/

namespace Sys2Proof

theorem Instr.entry_of_opcode {i : Instr} {o : Byte} {e : OpcodeEntry} (code : i.opcode = o) (row : opcodeTable o = e) :
    i.entry = e := by
  subst code
  exact row

open Instr (entry_of_opcode)

@[simp] theorem Instr.entry_oraIzx (z : Byte) : Instr.entry (.oraIzx z) = ⟨.ORA, .izx, some 6, false, .read, true⟩ :=
  entry_of_opcode (o := 0x01) rfl rfl
@[simp] theorem Instr.entry_sloIzx (z : Byte) : Instr.entry (.sloIzx z) = ⟨.SLO, .izx, some 8, false, .modify, false⟩ :=
  entry_of_opcode (o := 0x03) rfl rfl
@[simp] theorem Instr.entry_nopZp04 (z : Byte) : Instr.entry (.nopZp04 z) = ⟨.NOP, .zp, some 3, false, .read, false⟩ :=
  entry_of_opcode (o := 0x04) rfl rfl
@[simp] theorem Instr.entry_oraZp (z : Byte) : Instr.entry (.oraZp z) = ⟨.ORA, .zp, some 3, false, .read, true⟩ :=
  entry_of_opcode (o := 0x05) rfl rfl
@[simp] theorem Instr.entry_aslZp (z : Byte) : Instr.entry (.aslZp z) = ⟨.ASL, .zp, some 5, false, .modify, true⟩ :=
  entry_of_opcode (o := 0x06) rfl rfl
@[simp] theorem Instr.entry_sloZp (z : Byte) : Instr.entry (.sloZp z) = ⟨.SLO, .zp, some 5, false, .modify, false⟩ :=
  entry_of_opcode (o := 0x07) rfl rfl
@[simp] theorem Instr.entry_oraImm (v : Byte) : Instr.entry (.oraImm v) = ⟨.ORA, .imm, some 2, false, .read, true⟩ :=
  entry_of_opcode (o := 0x09) rfl rfl
@[simp] theorem Instr.entry_anc0B (v : Byte) : Instr.entry (.anc0B v) = ⟨.ANC, .imm, some 2, false, .read, false⟩ :=
  entry_of_opcode (o := 0x0B) rfl rfl
@[simp] theorem Instr.entry_nopAbs0C (w : Addr) : Instr.entry (.nopAbs0C w) = ⟨.NOP, .abs, some 4, false, .read, false⟩ :=
  entry_of_opcode (o := 0x0C) rfl rfl
@[simp] theorem Instr.entry_oraAbs (w : Addr) : Instr.entry (.oraAbs w) = ⟨.ORA, .abs, some 4, false, .read, true⟩ :=
  entry_of_opcode (o := 0x0D) rfl rfl
@[simp] theorem Instr.entry_aslAbs (w : Addr) : Instr.entry (.aslAbs w) = ⟨.ASL, .abs, some 6, false, .modify, true⟩ :=
  entry_of_opcode (o := 0x0E) rfl rfl
@[simp] theorem Instr.entry_sloAbs (w : Addr) : Instr.entry (.sloAbs w) = ⟨.SLO, .abs, some 6, false, .modify, false⟩ :=
  entry_of_opcode (o := 0x0F) rfl rfl
@[simp] theorem Instr.entry_bpl (d : Byte) : Instr.entry (.bpl d) = ⟨.BPL, .rel, some 2, false, .branch, true⟩ :=
  entry_of_opcode (o := 0x10) rfl rfl
@[simp] theorem Instr.entry_oraIzy (z : Byte) : Instr.entry (.oraIzy z) = ⟨.ORA, .izy, some 5, true, .read, true⟩ :=
  entry_of_opcode (o := 0x11) rfl rfl
@[simp] theorem Instr.entry_sloIzy (z : Byte) : Instr.entry (.sloIzy z) = ⟨.SLO, .izy, some 8, false, .modify, false⟩ :=
  entry_of_opcode (o := 0x13) rfl rfl
@[simp] theorem Instr.entry_nopZpx14 (z : Byte) : Instr.entry (.nopZpx14 z) = ⟨.NOP, .zpx, some 4, false, .read, false⟩ :=
  entry_of_opcode (o := 0x14) rfl rfl
@[simp] theorem Instr.entry_oraZpx (z : Byte) : Instr.entry (.oraZpx z) = ⟨.ORA, .zpx, some 4, false, .read, true⟩ :=
  entry_of_opcode (o := 0x15) rfl rfl
@[simp] theorem Instr.entry_aslZpx (z : Byte) : Instr.entry (.aslZpx z) = ⟨.ASL, .zpx, some 6, false, .modify, true⟩ :=
  entry_of_opcode (o := 0x16) rfl rfl
@[simp] theorem Instr.entry_sloZpx (z : Byte) : Instr.entry (.sloZpx z) = ⟨.SLO, .zpx, some 6, false, .modify, false⟩ :=
  entry_of_opcode (o := 0x17) rfl rfl
@[simp] theorem Instr.entry_oraAby (w : Addr) : Instr.entry (.oraAby w) = ⟨.ORA, .aby, some 4, true, .read, true⟩ :=
  entry_of_opcode (o := 0x19) rfl rfl
@[simp] theorem Instr.entry_sloAby (w : Addr) : Instr.entry (.sloAby w) = ⟨.SLO, .aby, some 7, false, .modify, false⟩ :=
  entry_of_opcode (o := 0x1B) rfl rfl
@[simp] theorem Instr.entry_nopAbx1C (w : Addr) : Instr.entry (.nopAbx1C w) = ⟨.NOP, .abx, some 4, true, .read, false⟩ :=
  entry_of_opcode (o := 0x1C) rfl rfl
@[simp] theorem Instr.entry_oraAbx (w : Addr) : Instr.entry (.oraAbx w) = ⟨.ORA, .abx, some 4, true, .read, true⟩ :=
  entry_of_opcode (o := 0x1D) rfl rfl
@[simp] theorem Instr.entry_aslAbx (w : Addr) : Instr.entry (.aslAbx w) = ⟨.ASL, .abx, some 7, false, .modify, true⟩ :=
  entry_of_opcode (o := 0x1E) rfl rfl
@[simp] theorem Instr.entry_sloAbx (w : Addr) : Instr.entry (.sloAbx w) = ⟨.SLO, .abx, some 7, false, .modify, false⟩ :=
  entry_of_opcode (o := 0x1F) rfl rfl
@[simp] theorem Instr.entry_jsr (w : Addr) : Instr.entry (.jsr w) = ⟨.JSR, .abs, some 6, false, .jump, true⟩ :=
  entry_of_opcode (o := 0x20) rfl rfl
@[simp] theorem Instr.entry_andIzx (z : Byte) : Instr.entry (.andIzx z) = ⟨.AND, .izx, some 6, false, .read, true⟩ :=
  entry_of_opcode (o := 0x21) rfl rfl
@[simp] theorem Instr.entry_rlaIzx (z : Byte) : Instr.entry (.rlaIzx z) = ⟨.RLA, .izx, some 8, false, .modify, false⟩ :=
  entry_of_opcode (o := 0x23) rfl rfl
@[simp] theorem Instr.entry_bitZp (z : Byte) : Instr.entry (.bitZp z) = ⟨.BIT, .zp, some 3, false, .read, true⟩ :=
  entry_of_opcode (o := 0x24) rfl rfl
@[simp] theorem Instr.entry_andZp (z : Byte) : Instr.entry (.andZp z) = ⟨.AND, .zp, some 3, false, .read, true⟩ :=
  entry_of_opcode (o := 0x25) rfl rfl
@[simp] theorem Instr.entry_rolZp (z : Byte) : Instr.entry (.rolZp z) = ⟨.ROL, .zp, some 5, false, .modify, true⟩ :=
  entry_of_opcode (o := 0x26) rfl rfl
@[simp] theorem Instr.entry_rlaZp (z : Byte) : Instr.entry (.rlaZp z) = ⟨.RLA, .zp, some 5, false, .modify, false⟩ :=
  entry_of_opcode (o := 0x27) rfl rfl
@[simp] theorem Instr.entry_andImm (v : Byte) : Instr.entry (.andImm v) = ⟨.AND, .imm, some 2, false, .read, true⟩ :=
  entry_of_opcode (o := 0x29) rfl rfl
@[simp] theorem Instr.entry_anc2B (v : Byte) : Instr.entry (.anc2B v) = ⟨.ANC, .imm, some 2, false, .read, false⟩ :=
  entry_of_opcode (o := 0x2B) rfl rfl
@[simp] theorem Instr.entry_bitAbs (w : Addr) : Instr.entry (.bitAbs w) = ⟨.BIT, .abs, some 4, false, .read, true⟩ :=
  entry_of_opcode (o := 0x2C) rfl rfl
@[simp] theorem Instr.entry_andAbs (w : Addr) : Instr.entry (.andAbs w) = ⟨.AND, .abs, some 4, false, .read, true⟩ :=
  entry_of_opcode (o := 0x2D) rfl rfl
@[simp] theorem Instr.entry_rolAbs (w : Addr) : Instr.entry (.rolAbs w) = ⟨.ROL, .abs, some 6, false, .modify, true⟩ :=
  entry_of_opcode (o := 0x2E) rfl rfl
@[simp] theorem Instr.entry_rlaAbs (w : Addr) : Instr.entry (.rlaAbs w) = ⟨.RLA, .abs, some 6, false, .modify, false⟩ :=
  entry_of_opcode (o := 0x2F) rfl rfl
@[simp] theorem Instr.entry_bmi (d : Byte) : Instr.entry (.bmi d) = ⟨.BMI, .rel, some 2, false, .branch, true⟩ :=
  entry_of_opcode (o := 0x30) rfl rfl
@[simp] theorem Instr.entry_andIzy (z : Byte) : Instr.entry (.andIzy z) = ⟨.AND, .izy, some 5, true, .read, true⟩ :=
  entry_of_opcode (o := 0x31) rfl rfl
@[simp] theorem Instr.entry_rlaIzy (z : Byte) : Instr.entry (.rlaIzy z) = ⟨.RLA, .izy, some 8, false, .modify, false⟩ :=
  entry_of_opcode (o := 0x33) rfl rfl
@[simp] theorem Instr.entry_nopZpx34 (z : Byte) : Instr.entry (.nopZpx34 z) = ⟨.NOP, .zpx, some 4, false, .read, false⟩ :=
  entry_of_opcode (o := 0x34) rfl rfl
@[simp] theorem Instr.entry_andZpx (z : Byte) : Instr.entry (.andZpx z) = ⟨.AND, .zpx, some 4, false, .read, true⟩ :=
  entry_of_opcode (o := 0x35) rfl rfl
@[simp] theorem Instr.entry_rolZpx (z : Byte) : Instr.entry (.rolZpx z) = ⟨.ROL, .zpx, some 6, false, .modify, true⟩ :=
  entry_of_opcode (o := 0x36) rfl rfl
@[simp] theorem Instr.entry_rlaZpx (z : Byte) : Instr.entry (.rlaZpx z) = ⟨.RLA, .zpx, some 6, false, .modify, false⟩ :=
  entry_of_opcode (o := 0x37) rfl rfl
@[simp] theorem Instr.entry_andAby (w : Addr) : Instr.entry (.andAby w) = ⟨.AND, .aby, some 4, true, .read, true⟩ :=
  entry_of_opcode (o := 0x39) rfl rfl
@[simp] theorem Instr.entry_rlaAby (w : Addr) : Instr.entry (.rlaAby w) = ⟨.RLA, .aby, some 7, false, .modify, false⟩ :=
  entry_of_opcode (o := 0x3B) rfl rfl
@[simp] theorem Instr.entry_nopAbx3C (w : Addr) : Instr.entry (.nopAbx3C w) = ⟨.NOP, .abx, some 4, true, .read, false⟩ :=
  entry_of_opcode (o := 0x3C) rfl rfl
@[simp] theorem Instr.entry_andAbx (w : Addr) : Instr.entry (.andAbx w) = ⟨.AND, .abx, some 4, true, .read, true⟩ :=
  entry_of_opcode (o := 0x3D) rfl rfl
@[simp] theorem Instr.entry_rolAbx (w : Addr) : Instr.entry (.rolAbx w) = ⟨.ROL, .abx, some 7, false, .modify, true⟩ :=
  entry_of_opcode (o := 0x3E) rfl rfl
@[simp] theorem Instr.entry_rlaAbx (w : Addr) : Instr.entry (.rlaAbx w) = ⟨.RLA, .abx, some 7, false, .modify, false⟩ :=
  entry_of_opcode (o := 0x3F) rfl rfl
@[simp] theorem Instr.entry_eorIzx (z : Byte) : Instr.entry (.eorIzx z) = ⟨.EOR, .izx, some 6, false, .read, true⟩ :=
  entry_of_opcode (o := 0x41) rfl rfl
@[simp] theorem Instr.entry_sreIzx (z : Byte) : Instr.entry (.sreIzx z) = ⟨.SRE, .izx, some 8, false, .modify, false⟩ :=
  entry_of_opcode (o := 0x43) rfl rfl
@[simp] theorem Instr.entry_nopZp44 (z : Byte) : Instr.entry (.nopZp44 z) = ⟨.NOP, .zp, some 3, false, .read, false⟩ :=
  entry_of_opcode (o := 0x44) rfl rfl
@[simp] theorem Instr.entry_eorZp (z : Byte) : Instr.entry (.eorZp z) = ⟨.EOR, .zp, some 3, false, .read, true⟩ :=
  entry_of_opcode (o := 0x45) rfl rfl
@[simp] theorem Instr.entry_lsrZp (z : Byte) : Instr.entry (.lsrZp z) = ⟨.LSR, .zp, some 5, false, .modify, true⟩ :=
  entry_of_opcode (o := 0x46) rfl rfl
@[simp] theorem Instr.entry_sreZp (z : Byte) : Instr.entry (.sreZp z) = ⟨.SRE, .zp, some 5, false, .modify, false⟩ :=
  entry_of_opcode (o := 0x47) rfl rfl
@[simp] theorem Instr.entry_eorImm (v : Byte) : Instr.entry (.eorImm v) = ⟨.EOR, .imm, some 2, false, .read, true⟩ :=
  entry_of_opcode (o := 0x49) rfl rfl
@[simp] theorem Instr.entry_alr (v : Byte) : Instr.entry (.alr v) = ⟨.ALR, .imm, some 2, false, .read, false⟩ :=
  entry_of_opcode (o := 0x4B) rfl rfl
@[simp] theorem Instr.entry_jmpAbs (w : Addr) : Instr.entry (.jmpAbs w) = ⟨.JMP, .abs, some 3, false, .jump, true⟩ :=
  entry_of_opcode (o := 0x4C) rfl rfl
@[simp] theorem Instr.entry_eorAbs (w : Addr) : Instr.entry (.eorAbs w) = ⟨.EOR, .abs, some 4, false, .read, true⟩ :=
  entry_of_opcode (o := 0x4D) rfl rfl
@[simp] theorem Instr.entry_lsrAbs (w : Addr) : Instr.entry (.lsrAbs w) = ⟨.LSR, .abs, some 6, false, .modify, true⟩ :=
  entry_of_opcode (o := 0x4E) rfl rfl
@[simp] theorem Instr.entry_sreAbs (w : Addr) : Instr.entry (.sreAbs w) = ⟨.SRE, .abs, some 6, false, .modify, false⟩ :=
  entry_of_opcode (o := 0x4F) rfl rfl
@[simp] theorem Instr.entry_bvc (d : Byte) : Instr.entry (.bvc d) = ⟨.BVC, .rel, some 2, false, .branch, true⟩ :=
  entry_of_opcode (o := 0x50) rfl rfl
@[simp] theorem Instr.entry_eorIzy (z : Byte) : Instr.entry (.eorIzy z) = ⟨.EOR, .izy, some 5, true, .read, true⟩ :=
  entry_of_opcode (o := 0x51) rfl rfl
@[simp] theorem Instr.entry_sreIzy (z : Byte) : Instr.entry (.sreIzy z) = ⟨.SRE, .izy, some 8, false, .modify, false⟩ :=
  entry_of_opcode (o := 0x53) rfl rfl
@[simp] theorem Instr.entry_nopZpx54 (z : Byte) : Instr.entry (.nopZpx54 z) = ⟨.NOP, .zpx, some 4, false, .read, false⟩ :=
  entry_of_opcode (o := 0x54) rfl rfl
@[simp] theorem Instr.entry_eorZpx (z : Byte) : Instr.entry (.eorZpx z) = ⟨.EOR, .zpx, some 4, false, .read, true⟩ :=
  entry_of_opcode (o := 0x55) rfl rfl
@[simp] theorem Instr.entry_lsrZpx (z : Byte) : Instr.entry (.lsrZpx z) = ⟨.LSR, .zpx, some 6, false, .modify, true⟩ :=
  entry_of_opcode (o := 0x56) rfl rfl
@[simp] theorem Instr.entry_sreZpx (z : Byte) : Instr.entry (.sreZpx z) = ⟨.SRE, .zpx, some 6, false, .modify, false⟩ :=
  entry_of_opcode (o := 0x57) rfl rfl
@[simp] theorem Instr.entry_eorAby (w : Addr) : Instr.entry (.eorAby w) = ⟨.EOR, .aby, some 4, true, .read, true⟩ :=
  entry_of_opcode (o := 0x59) rfl rfl
@[simp] theorem Instr.entry_sreAby (w : Addr) : Instr.entry (.sreAby w) = ⟨.SRE, .aby, some 7, false, .modify, false⟩ :=
  entry_of_opcode (o := 0x5B) rfl rfl
@[simp] theorem Instr.entry_nopAbx5C (w : Addr) : Instr.entry (.nopAbx5C w) = ⟨.NOP, .abx, some 4, true, .read, false⟩ :=
  entry_of_opcode (o := 0x5C) rfl rfl
@[simp] theorem Instr.entry_eorAbx (w : Addr) : Instr.entry (.eorAbx w) = ⟨.EOR, .abx, some 4, true, .read, true⟩ :=
  entry_of_opcode (o := 0x5D) rfl rfl
@[simp] theorem Instr.entry_lsrAbx (w : Addr) : Instr.entry (.lsrAbx w) = ⟨.LSR, .abx, some 7, false, .modify, true⟩ :=
  entry_of_opcode (o := 0x5E) rfl rfl
@[simp] theorem Instr.entry_sreAbx (w : Addr) : Instr.entry (.sreAbx w) = ⟨.SRE, .abx, some 7, false, .modify, false⟩ :=
  entry_of_opcode (o := 0x5F) rfl rfl
@[simp] theorem Instr.entry_adcIzx (z : Byte) : Instr.entry (.adcIzx z) = ⟨.ADC, .izx, some 6, false, .read, true⟩ :=
  entry_of_opcode (o := 0x61) rfl rfl
@[simp] theorem Instr.entry_rraIzx (z : Byte) : Instr.entry (.rraIzx z) = ⟨.RRA, .izx, some 8, false, .modify, false⟩ :=
  entry_of_opcode (o := 0x63) rfl rfl
@[simp] theorem Instr.entry_nopZp64 (z : Byte) : Instr.entry (.nopZp64 z) = ⟨.NOP, .zp, some 3, false, .read, false⟩ :=
  entry_of_opcode (o := 0x64) rfl rfl
@[simp] theorem Instr.entry_adcZp (z : Byte) : Instr.entry (.adcZp z) = ⟨.ADC, .zp, some 3, false, .read, true⟩ :=
  entry_of_opcode (o := 0x65) rfl rfl
@[simp] theorem Instr.entry_rorZp (z : Byte) : Instr.entry (.rorZp z) = ⟨.ROR, .zp, some 5, false, .modify, true⟩ :=
  entry_of_opcode (o := 0x66) rfl rfl
@[simp] theorem Instr.entry_rraZp (z : Byte) : Instr.entry (.rraZp z) = ⟨.RRA, .zp, some 5, false, .modify, false⟩ :=
  entry_of_opcode (o := 0x67) rfl rfl
@[simp] theorem Instr.entry_adcImm (v : Byte) : Instr.entry (.adcImm v) = ⟨.ADC, .imm, some 2, false, .read, true⟩ :=
  entry_of_opcode (o := 0x69) rfl rfl
@[simp] theorem Instr.entry_arr (v : Byte) : Instr.entry (.arr v) = ⟨.ARR, .imm, some 2, false, .read, false⟩ :=
  entry_of_opcode (o := 0x6B) rfl rfl
@[simp] theorem Instr.entry_jmpInd (w : Addr) : Instr.entry (.jmpInd w) = ⟨.JMP, .ind, some 5, false, .jump, true⟩ :=
  entry_of_opcode (o := 0x6C) rfl rfl
@[simp] theorem Instr.entry_adcAbs (w : Addr) : Instr.entry (.adcAbs w) = ⟨.ADC, .abs, some 4, false, .read, true⟩ :=
  entry_of_opcode (o := 0x6D) rfl rfl
@[simp] theorem Instr.entry_rorAbs (w : Addr) : Instr.entry (.rorAbs w) = ⟨.ROR, .abs, some 6, false, .modify, true⟩ :=
  entry_of_opcode (o := 0x6E) rfl rfl
@[simp] theorem Instr.entry_rraAbs (w : Addr) : Instr.entry (.rraAbs w) = ⟨.RRA, .abs, some 6, false, .modify, false⟩ :=
  entry_of_opcode (o := 0x6F) rfl rfl
@[simp] theorem Instr.entry_bvs (d : Byte) : Instr.entry (.bvs d) = ⟨.BVS, .rel, some 2, false, .branch, true⟩ :=
  entry_of_opcode (o := 0x70) rfl rfl
@[simp] theorem Instr.entry_adcIzy (z : Byte) : Instr.entry (.adcIzy z) = ⟨.ADC, .izy, some 5, true, .read, true⟩ :=
  entry_of_opcode (o := 0x71) rfl rfl
@[simp] theorem Instr.entry_rraIzy (z : Byte) : Instr.entry (.rraIzy z) = ⟨.RRA, .izy, some 8, false, .modify, false⟩ :=
  entry_of_opcode (o := 0x73) rfl rfl
@[simp] theorem Instr.entry_nopZpx74 (z : Byte) : Instr.entry (.nopZpx74 z) = ⟨.NOP, .zpx, some 4, false, .read, false⟩ :=
  entry_of_opcode (o := 0x74) rfl rfl
@[simp] theorem Instr.entry_adcZpx (z : Byte) : Instr.entry (.adcZpx z) = ⟨.ADC, .zpx, some 4, false, .read, true⟩ :=
  entry_of_opcode (o := 0x75) rfl rfl
@[simp] theorem Instr.entry_rorZpx (z : Byte) : Instr.entry (.rorZpx z) = ⟨.ROR, .zpx, some 6, false, .modify, true⟩ :=
  entry_of_opcode (o := 0x76) rfl rfl
@[simp] theorem Instr.entry_rraZpx (z : Byte) : Instr.entry (.rraZpx z) = ⟨.RRA, .zpx, some 6, false, .modify, false⟩ :=
  entry_of_opcode (o := 0x77) rfl rfl
@[simp] theorem Instr.entry_adcAby (w : Addr) : Instr.entry (.adcAby w) = ⟨.ADC, .aby, some 4, true, .read, true⟩ :=
  entry_of_opcode (o := 0x79) rfl rfl
@[simp] theorem Instr.entry_rraAby (w : Addr) : Instr.entry (.rraAby w) = ⟨.RRA, .aby, some 7, false, .modify, false⟩ :=
  entry_of_opcode (o := 0x7B) rfl rfl
@[simp] theorem Instr.entry_nopAbx7C (w : Addr) : Instr.entry (.nopAbx7C w) = ⟨.NOP, .abx, some 4, true, .read, false⟩ :=
  entry_of_opcode (o := 0x7C) rfl rfl
@[simp] theorem Instr.entry_adcAbx (w : Addr) : Instr.entry (.adcAbx w) = ⟨.ADC, .abx, some 4, true, .read, true⟩ :=
  entry_of_opcode (o := 0x7D) rfl rfl
@[simp] theorem Instr.entry_rorAbx (w : Addr) : Instr.entry (.rorAbx w) = ⟨.ROR, .abx, some 7, false, .modify, true⟩ :=
  entry_of_opcode (o := 0x7E) rfl rfl
@[simp] theorem Instr.entry_rraAbx (w : Addr) : Instr.entry (.rraAbx w) = ⟨.RRA, .abx, some 7, false, .modify, false⟩ :=
  entry_of_opcode (o := 0x7F) rfl rfl
@[simp] theorem Instr.entry_nopImm80 (v : Byte) : Instr.entry (.nopImm80 v) = ⟨.NOP, .imm, some 2, false, .read, false⟩ :=
  entry_of_opcode (o := 0x80) rfl rfl
@[simp] theorem Instr.entry_staIzx (z : Byte) : Instr.entry (.staIzx z) = ⟨.STA, .izx, some 6, false, .write, true⟩ :=
  entry_of_opcode (o := 0x81) rfl rfl
@[simp] theorem Instr.entry_nopImm82 (v : Byte) : Instr.entry (.nopImm82 v) = ⟨.NOP, .imm, some 2, false, .read, false⟩ :=
  entry_of_opcode (o := 0x82) rfl rfl
@[simp] theorem Instr.entry_saxIzx (z : Byte) : Instr.entry (.saxIzx z) = ⟨.SAX, .izx, some 6, false, .write, false⟩ :=
  entry_of_opcode (o := 0x83) rfl rfl
@[simp] theorem Instr.entry_styZp (z : Byte) : Instr.entry (.styZp z) = ⟨.STY, .zp, some 3, false, .write, true⟩ :=
  entry_of_opcode (o := 0x84) rfl rfl
@[simp] theorem Instr.entry_staZp (z : Byte) : Instr.entry (.staZp z) = ⟨.STA, .zp, some 3, false, .write, true⟩ :=
  entry_of_opcode (o := 0x85) rfl rfl
@[simp] theorem Instr.entry_stxZp (z : Byte) : Instr.entry (.stxZp z) = ⟨.STX, .zp, some 3, false, .write, true⟩ :=
  entry_of_opcode (o := 0x86) rfl rfl
@[simp] theorem Instr.entry_saxZp (z : Byte) : Instr.entry (.saxZp z) = ⟨.SAX, .zp, some 3, false, .write, false⟩ :=
  entry_of_opcode (o := 0x87) rfl rfl
@[simp] theorem Instr.entry_nopImm89 (v : Byte) : Instr.entry (.nopImm89 v) = ⟨.NOP, .imm, some 2, false, .read, false⟩ :=
  entry_of_opcode (o := 0x89) rfl rfl
@[simp] theorem Instr.entry_ane (v : Byte) : Instr.entry (.ane v) = ⟨.ANE, .imm, some 2, false, .read, false⟩ :=
  entry_of_opcode (o := 0x8B) rfl rfl
@[simp] theorem Instr.entry_styAbs (w : Addr) : Instr.entry (.styAbs w) = ⟨.STY, .abs, some 4, false, .write, true⟩ :=
  entry_of_opcode (o := 0x8C) rfl rfl
@[simp] theorem Instr.entry_staAbs (w : Addr) : Instr.entry (.staAbs w) = ⟨.STA, .abs, some 4, false, .write, true⟩ :=
  entry_of_opcode (o := 0x8D) rfl rfl
@[simp] theorem Instr.entry_stxAbs (w : Addr) : Instr.entry (.stxAbs w) = ⟨.STX, .abs, some 4, false, .write, true⟩ :=
  entry_of_opcode (o := 0x8E) rfl rfl
@[simp] theorem Instr.entry_saxAbs (w : Addr) : Instr.entry (.saxAbs w) = ⟨.SAX, .abs, some 4, false, .write, false⟩ :=
  entry_of_opcode (o := 0x8F) rfl rfl
@[simp] theorem Instr.entry_bcc (d : Byte) : Instr.entry (.bcc d) = ⟨.BCC, .rel, some 2, false, .branch, true⟩ :=
  entry_of_opcode (o := 0x90) rfl rfl
@[simp] theorem Instr.entry_staIzy (z : Byte) : Instr.entry (.staIzy z) = ⟨.STA, .izy, some 6, false, .write, true⟩ :=
  entry_of_opcode (o := 0x91) rfl rfl
@[simp] theorem Instr.entry_shaIzy (z : Byte) : Instr.entry (.shaIzy z) = ⟨.SHA, .izy, some 6, false, .write, false⟩ :=
  entry_of_opcode (o := 0x93) rfl rfl
@[simp] theorem Instr.entry_styZpx (z : Byte) : Instr.entry (.styZpx z) = ⟨.STY, .zpx, some 4, false, .write, true⟩ :=
  entry_of_opcode (o := 0x94) rfl rfl
@[simp] theorem Instr.entry_staZpx (z : Byte) : Instr.entry (.staZpx z) = ⟨.STA, .zpx, some 4, false, .write, true⟩ :=
  entry_of_opcode (o := 0x95) rfl rfl
@[simp] theorem Instr.entry_stxZpy (z : Byte) : Instr.entry (.stxZpy z) = ⟨.STX, .zpy, some 4, false, .write, true⟩ :=
  entry_of_opcode (o := 0x96) rfl rfl
@[simp] theorem Instr.entry_saxZpy (z : Byte) : Instr.entry (.saxZpy z) = ⟨.SAX, .zpy, some 4, false, .write, false⟩ :=
  entry_of_opcode (o := 0x97) rfl rfl
@[simp] theorem Instr.entry_staAby (w : Addr) : Instr.entry (.staAby w) = ⟨.STA, .aby, some 5, false, .write, true⟩ :=
  entry_of_opcode (o := 0x99) rfl rfl
@[simp] theorem Instr.entry_tas (w : Addr) : Instr.entry (.tas w) = ⟨.TAS, .aby, some 5, false, .write, false⟩ :=
  entry_of_opcode (o := 0x9B) rfl rfl
@[simp] theorem Instr.entry_shy (w : Addr) : Instr.entry (.shy w) = ⟨.SHY, .abx, some 5, false, .write, false⟩ :=
  entry_of_opcode (o := 0x9C) rfl rfl
@[simp] theorem Instr.entry_staAbx (w : Addr) : Instr.entry (.staAbx w) = ⟨.STA, .abx, some 5, false, .write, true⟩ :=
  entry_of_opcode (o := 0x9D) rfl rfl
@[simp] theorem Instr.entry_shx (w : Addr) : Instr.entry (.shx w) = ⟨.SHX, .aby, some 5, false, .write, false⟩ :=
  entry_of_opcode (o := 0x9E) rfl rfl
@[simp] theorem Instr.entry_shaAby (w : Addr) : Instr.entry (.shaAby w) = ⟨.SHA, .aby, some 5, false, .write, false⟩ :=
  entry_of_opcode (o := 0x9F) rfl rfl
@[simp] theorem Instr.entry_ldyImm (v : Byte) : Instr.entry (.ldyImm v) = ⟨.LDY, .imm, some 2, false, .read, true⟩ :=
  entry_of_opcode (o := 0xA0) rfl rfl
@[simp] theorem Instr.entry_ldaIzx (z : Byte) : Instr.entry (.ldaIzx z) = ⟨.LDA, .izx, some 6, false, .read, true⟩ :=
  entry_of_opcode (o := 0xA1) rfl rfl
@[simp] theorem Instr.entry_ldxImm (v : Byte) : Instr.entry (.ldxImm v) = ⟨.LDX, .imm, some 2, false, .read, true⟩ :=
  entry_of_opcode (o := 0xA2) rfl rfl
@[simp] theorem Instr.entry_laxIzx (z : Byte) : Instr.entry (.laxIzx z) = ⟨.LAX, .izx, some 6, false, .read, false⟩ :=
  entry_of_opcode (o := 0xA3) rfl rfl
@[simp] theorem Instr.entry_ldyZp (z : Byte) : Instr.entry (.ldyZp z) = ⟨.LDY, .zp, some 3, false, .read, true⟩ :=
  entry_of_opcode (o := 0xA4) rfl rfl
@[simp] theorem Instr.entry_ldaZp (z : Byte) : Instr.entry (.ldaZp z) = ⟨.LDA, .zp, some 3, false, .read, true⟩ :=
  entry_of_opcode (o := 0xA5) rfl rfl
@[simp] theorem Instr.entry_ldxZp (z : Byte) : Instr.entry (.ldxZp z) = ⟨.LDX, .zp, some 3, false, .read, true⟩ :=
  entry_of_opcode (o := 0xA6) rfl rfl
@[simp] theorem Instr.entry_laxZp (z : Byte) : Instr.entry (.laxZp z) = ⟨.LAX, .zp, some 3, false, .read, false⟩ :=
  entry_of_opcode (o := 0xA7) rfl rfl
@[simp] theorem Instr.entry_ldaImm (v : Byte) : Instr.entry (.ldaImm v) = ⟨.LDA, .imm, some 2, false, .read, true⟩ :=
  entry_of_opcode (o := 0xA9) rfl rfl
@[simp] theorem Instr.entry_lxa (v : Byte) : Instr.entry (.lxa v) = ⟨.LXA, .imm, some 2, false, .read, false⟩ :=
  entry_of_opcode (o := 0xAB) rfl rfl
@[simp] theorem Instr.entry_ldyAbs (w : Addr) : Instr.entry (.ldyAbs w) = ⟨.LDY, .abs, some 4, false, .read, true⟩ :=
  entry_of_opcode (o := 0xAC) rfl rfl
@[simp] theorem Instr.entry_ldaAbs (w : Addr) : Instr.entry (.ldaAbs w) = ⟨.LDA, .abs, some 4, false, .read, true⟩ :=
  entry_of_opcode (o := 0xAD) rfl rfl
@[simp] theorem Instr.entry_ldxAbs (w : Addr) : Instr.entry (.ldxAbs w) = ⟨.LDX, .abs, some 4, false, .read, true⟩ :=
  entry_of_opcode (o := 0xAE) rfl rfl
@[simp] theorem Instr.entry_laxAbs (w : Addr) : Instr.entry (.laxAbs w) = ⟨.LAX, .abs, some 4, false, .read, false⟩ :=
  entry_of_opcode (o := 0xAF) rfl rfl
@[simp] theorem Instr.entry_bcs (d : Byte) : Instr.entry (.bcs d) = ⟨.BCS, .rel, some 2, false, .branch, true⟩ :=
  entry_of_opcode (o := 0xB0) rfl rfl
@[simp] theorem Instr.entry_ldaIzy (z : Byte) : Instr.entry (.ldaIzy z) = ⟨.LDA, .izy, some 5, true, .read, true⟩ :=
  entry_of_opcode (o := 0xB1) rfl rfl
@[simp] theorem Instr.entry_laxIzy (z : Byte) : Instr.entry (.laxIzy z) = ⟨.LAX, .izy, some 5, true, .read, false⟩ :=
  entry_of_opcode (o := 0xB3) rfl rfl
@[simp] theorem Instr.entry_ldyZpx (z : Byte) : Instr.entry (.ldyZpx z) = ⟨.LDY, .zpx, some 4, false, .read, true⟩ :=
  entry_of_opcode (o := 0xB4) rfl rfl
@[simp] theorem Instr.entry_ldaZpx (z : Byte) : Instr.entry (.ldaZpx z) = ⟨.LDA, .zpx, some 4, false, .read, true⟩ :=
  entry_of_opcode (o := 0xB5) rfl rfl
@[simp] theorem Instr.entry_ldxZpy (z : Byte) : Instr.entry (.ldxZpy z) = ⟨.LDX, .zpy, some 4, false, .read, true⟩ :=
  entry_of_opcode (o := 0xB6) rfl rfl
@[simp] theorem Instr.entry_laxZpy (z : Byte) : Instr.entry (.laxZpy z) = ⟨.LAX, .zpy, some 4, false, .read, false⟩ :=
  entry_of_opcode (o := 0xB7) rfl rfl
@[simp] theorem Instr.entry_ldaAby (w : Addr) : Instr.entry (.ldaAby w) = ⟨.LDA, .aby, some 4, true, .read, true⟩ :=
  entry_of_opcode (o := 0xB9) rfl rfl
@[simp] theorem Instr.entry_las (w : Addr) : Instr.entry (.las w) = ⟨.LAS, .aby, some 4, true, .read, false⟩ :=
  entry_of_opcode (o := 0xBB) rfl rfl
@[simp] theorem Instr.entry_ldyAbx (w : Addr) : Instr.entry (.ldyAbx w) = ⟨.LDY, .abx, some 4, true, .read, true⟩ :=
  entry_of_opcode (o := 0xBC) rfl rfl
@[simp] theorem Instr.entry_ldaAbx (w : Addr) : Instr.entry (.ldaAbx w) = ⟨.LDA, .abx, some 4, true, .read, true⟩ :=
  entry_of_opcode (o := 0xBD) rfl rfl
@[simp] theorem Instr.entry_ldxAby (w : Addr) : Instr.entry (.ldxAby w) = ⟨.LDX, .aby, some 4, true, .read, true⟩ :=
  entry_of_opcode (o := 0xBE) rfl rfl
@[simp] theorem Instr.entry_laxAby (w : Addr) : Instr.entry (.laxAby w) = ⟨.LAX, .aby, some 4, true, .read, false⟩ :=
  entry_of_opcode (o := 0xBF) rfl rfl
@[simp] theorem Instr.entry_cpyImm (v : Byte) : Instr.entry (.cpyImm v) = ⟨.CPY, .imm, some 2, false, .read, true⟩ :=
  entry_of_opcode (o := 0xC0) rfl rfl
@[simp] theorem Instr.entry_cmpIzx (z : Byte) : Instr.entry (.cmpIzx z) = ⟨.CMP, .izx, some 6, false, .read, true⟩ :=
  entry_of_opcode (o := 0xC1) rfl rfl
@[simp] theorem Instr.entry_nopImmC2 (v : Byte) : Instr.entry (.nopImmC2 v) = ⟨.NOP, .imm, some 2, false, .read, false⟩ :=
  entry_of_opcode (o := 0xC2) rfl rfl
@[simp] theorem Instr.entry_dcpIzx (z : Byte) : Instr.entry (.dcpIzx z) = ⟨.DCP, .izx, some 8, false, .modify, false⟩ :=
  entry_of_opcode (o := 0xC3) rfl rfl
@[simp] theorem Instr.entry_cpyZp (z : Byte) : Instr.entry (.cpyZp z) = ⟨.CPY, .zp, some 3, false, .read, true⟩ :=
  entry_of_opcode (o := 0xC4) rfl rfl
@[simp] theorem Instr.entry_cmpZp (z : Byte) : Instr.entry (.cmpZp z) = ⟨.CMP, .zp, some 3, false, .read, true⟩ :=
  entry_of_opcode (o := 0xC5) rfl rfl
@[simp] theorem Instr.entry_decZp (z : Byte) : Instr.entry (.decZp z) = ⟨.DEC, .zp, some 5, false, .modify, true⟩ :=
  entry_of_opcode (o := 0xC6) rfl rfl
@[simp] theorem Instr.entry_dcpZp (z : Byte) : Instr.entry (.dcpZp z) = ⟨.DCP, .zp, some 5, false, .modify, false⟩ :=
  entry_of_opcode (o := 0xC7) rfl rfl
@[simp] theorem Instr.entry_cmpImm (v : Byte) : Instr.entry (.cmpImm v) = ⟨.CMP, .imm, some 2, false, .read, true⟩ :=
  entry_of_opcode (o := 0xC9) rfl rfl
@[simp] theorem Instr.entry_sbx (v : Byte) : Instr.entry (.sbx v) = ⟨.SBX, .imm, some 2, false, .read, false⟩ :=
  entry_of_opcode (o := 0xCB) rfl rfl
@[simp] theorem Instr.entry_cpyAbs (w : Addr) : Instr.entry (.cpyAbs w) = ⟨.CPY, .abs, some 4, false, .read, true⟩ :=
  entry_of_opcode (o := 0xCC) rfl rfl
@[simp] theorem Instr.entry_cmpAbs (w : Addr) : Instr.entry (.cmpAbs w) = ⟨.CMP, .abs, some 4, false, .read, true⟩ :=
  entry_of_opcode (o := 0xCD) rfl rfl
@[simp] theorem Instr.entry_decAbs (w : Addr) : Instr.entry (.decAbs w) = ⟨.DEC, .abs, some 6, false, .modify, true⟩ :=
  entry_of_opcode (o := 0xCE) rfl rfl
@[simp] theorem Instr.entry_dcpAbs (w : Addr) : Instr.entry (.dcpAbs w) = ⟨.DCP, .abs, some 6, false, .modify, false⟩ :=
  entry_of_opcode (o := 0xCF) rfl rfl
@[simp] theorem Instr.entry_bne (d : Byte) : Instr.entry (.bne d) = ⟨.BNE, .rel, some 2, false, .branch, true⟩ :=
  entry_of_opcode (o := 0xD0) rfl rfl
@[simp] theorem Instr.entry_cmpIzy (z : Byte) : Instr.entry (.cmpIzy z) = ⟨.CMP, .izy, some 5, true, .read, true⟩ :=
  entry_of_opcode (o := 0xD1) rfl rfl
@[simp] theorem Instr.entry_dcpIzy (z : Byte) : Instr.entry (.dcpIzy z) = ⟨.DCP, .izy, some 8, false, .modify, false⟩ :=
  entry_of_opcode (o := 0xD3) rfl rfl
@[simp] theorem Instr.entry_nopZpxD4 (z : Byte) : Instr.entry (.nopZpxD4 z) = ⟨.NOP, .zpx, some 4, false, .read, false⟩ :=
  entry_of_opcode (o := 0xD4) rfl rfl
@[simp] theorem Instr.entry_cmpZpx (z : Byte) : Instr.entry (.cmpZpx z) = ⟨.CMP, .zpx, some 4, false, .read, true⟩ :=
  entry_of_opcode (o := 0xD5) rfl rfl
@[simp] theorem Instr.entry_decZpx (z : Byte) : Instr.entry (.decZpx z) = ⟨.DEC, .zpx, some 6, false, .modify, true⟩ :=
  entry_of_opcode (o := 0xD6) rfl rfl
@[simp] theorem Instr.entry_dcpZpx (z : Byte) : Instr.entry (.dcpZpx z) = ⟨.DCP, .zpx, some 6, false, .modify, false⟩ :=
  entry_of_opcode (o := 0xD7) rfl rfl
@[simp] theorem Instr.entry_cmpAby (w : Addr) : Instr.entry (.cmpAby w) = ⟨.CMP, .aby, some 4, true, .read, true⟩ :=
  entry_of_opcode (o := 0xD9) rfl rfl
@[simp] theorem Instr.entry_dcpAby (w : Addr) : Instr.entry (.dcpAby w) = ⟨.DCP, .aby, some 7, false, .modify, false⟩ :=
  entry_of_opcode (o := 0xDB) rfl rfl
@[simp] theorem Instr.entry_nopAbxDC (w : Addr) : Instr.entry (.nopAbxDC w) = ⟨.NOP, .abx, some 4, true, .read, false⟩ :=
  entry_of_opcode (o := 0xDC) rfl rfl
@[simp] theorem Instr.entry_cmpAbx (w : Addr) : Instr.entry (.cmpAbx w) = ⟨.CMP, .abx, some 4, true, .read, true⟩ :=
  entry_of_opcode (o := 0xDD) rfl rfl
@[simp] theorem Instr.entry_decAbx (w : Addr) : Instr.entry (.decAbx w) = ⟨.DEC, .abx, some 7, false, .modify, true⟩ :=
  entry_of_opcode (o := 0xDE) rfl rfl
@[simp] theorem Instr.entry_dcpAbx (w : Addr) : Instr.entry (.dcpAbx w) = ⟨.DCP, .abx, some 7, false, .modify, false⟩ :=
  entry_of_opcode (o := 0xDF) rfl rfl
@[simp] theorem Instr.entry_cpxImm (v : Byte) : Instr.entry (.cpxImm v) = ⟨.CPX, .imm, some 2, false, .read, true⟩ :=
  entry_of_opcode (o := 0xE0) rfl rfl
@[simp] theorem Instr.entry_sbcIzx (z : Byte) : Instr.entry (.sbcIzx z) = ⟨.SBC, .izx, some 6, false, .read, true⟩ :=
  entry_of_opcode (o := 0xE1) rfl rfl
@[simp] theorem Instr.entry_nopImmE2 (v : Byte) : Instr.entry (.nopImmE2 v) = ⟨.NOP, .imm, some 2, false, .read, false⟩ :=
  entry_of_opcode (o := 0xE2) rfl rfl
@[simp] theorem Instr.entry_iscIzx (z : Byte) : Instr.entry (.iscIzx z) = ⟨.ISC, .izx, some 8, false, .modify, false⟩ :=
  entry_of_opcode (o := 0xE3) rfl rfl
@[simp] theorem Instr.entry_cpxZp (z : Byte) : Instr.entry (.cpxZp z) = ⟨.CPX, .zp, some 3, false, .read, true⟩ :=
  entry_of_opcode (o := 0xE4) rfl rfl
@[simp] theorem Instr.entry_sbcZp (z : Byte) : Instr.entry (.sbcZp z) = ⟨.SBC, .zp, some 3, false, .read, true⟩ :=
  entry_of_opcode (o := 0xE5) rfl rfl
@[simp] theorem Instr.entry_incZp (z : Byte) : Instr.entry (.incZp z) = ⟨.INC, .zp, some 5, false, .modify, true⟩ :=
  entry_of_opcode (o := 0xE6) rfl rfl
@[simp] theorem Instr.entry_iscZp (z : Byte) : Instr.entry (.iscZp z) = ⟨.ISC, .zp, some 5, false, .modify, false⟩ :=
  entry_of_opcode (o := 0xE7) rfl rfl
@[simp] theorem Instr.entry_sbcImm (v : Byte) : Instr.entry (.sbcImm v) = ⟨.SBC, .imm, some 2, false, .read, true⟩ :=
  entry_of_opcode (o := 0xE9) rfl rfl
@[simp] theorem Instr.entry_usbc (v : Byte) : Instr.entry (.usbc v) = ⟨.USBC, .imm, some 2, false, .read, false⟩ :=
  entry_of_opcode (o := 0xEB) rfl rfl
@[simp] theorem Instr.entry_cpxAbs (w : Addr) : Instr.entry (.cpxAbs w) = ⟨.CPX, .abs, some 4, false, .read, true⟩ :=
  entry_of_opcode (o := 0xEC) rfl rfl
@[simp] theorem Instr.entry_sbcAbs (w : Addr) : Instr.entry (.sbcAbs w) = ⟨.SBC, .abs, some 4, false, .read, true⟩ :=
  entry_of_opcode (o := 0xED) rfl rfl
@[simp] theorem Instr.entry_incAbs (w : Addr) : Instr.entry (.incAbs w) = ⟨.INC, .abs, some 6, false, .modify, true⟩ :=
  entry_of_opcode (o := 0xEE) rfl rfl
@[simp] theorem Instr.entry_iscAbs (w : Addr) : Instr.entry (.iscAbs w) = ⟨.ISC, .abs, some 6, false, .modify, false⟩ :=
  entry_of_opcode (o := 0xEF) rfl rfl
@[simp] theorem Instr.entry_beq (d : Byte) : Instr.entry (.beq d) = ⟨.BEQ, .rel, some 2, false, .branch, true⟩ :=
  entry_of_opcode (o := 0xF0) rfl rfl
@[simp] theorem Instr.entry_sbcIzy (z : Byte) : Instr.entry (.sbcIzy z) = ⟨.SBC, .izy, some 5, true, .read, true⟩ :=
  entry_of_opcode (o := 0xF1) rfl rfl
@[simp] theorem Instr.entry_iscIzy (z : Byte) : Instr.entry (.iscIzy z) = ⟨.ISC, .izy, some 8, false, .modify, false⟩ :=
  entry_of_opcode (o := 0xF3) rfl rfl
@[simp] theorem Instr.entry_nopZpxF4 (z : Byte) : Instr.entry (.nopZpxF4 z) = ⟨.NOP, .zpx, some 4, false, .read, false⟩ :=
  entry_of_opcode (o := 0xF4) rfl rfl
@[simp] theorem Instr.entry_sbcZpx (z : Byte) : Instr.entry (.sbcZpx z) = ⟨.SBC, .zpx, some 4, false, .read, true⟩ :=
  entry_of_opcode (o := 0xF5) rfl rfl
@[simp] theorem Instr.entry_incZpx (z : Byte) : Instr.entry (.incZpx z) = ⟨.INC, .zpx, some 6, false, .modify, true⟩ :=
  entry_of_opcode (o := 0xF6) rfl rfl
@[simp] theorem Instr.entry_iscZpx (z : Byte) : Instr.entry (.iscZpx z) = ⟨.ISC, .zpx, some 6, false, .modify, false⟩ :=
  entry_of_opcode (o := 0xF7) rfl rfl
@[simp] theorem Instr.entry_sbcAby (w : Addr) : Instr.entry (.sbcAby w) = ⟨.SBC, .aby, some 4, true, .read, true⟩ :=
  entry_of_opcode (o := 0xF9) rfl rfl
@[simp] theorem Instr.entry_iscAby (w : Addr) : Instr.entry (.iscAby w) = ⟨.ISC, .aby, some 7, false, .modify, false⟩ :=
  entry_of_opcode (o := 0xFB) rfl rfl
@[simp] theorem Instr.entry_nopAbxFC (w : Addr) : Instr.entry (.nopAbxFC w) = ⟨.NOP, .abx, some 4, true, .read, false⟩ :=
  entry_of_opcode (o := 0xFC) rfl rfl
@[simp] theorem Instr.entry_sbcAbx (w : Addr) : Instr.entry (.sbcAbx w) = ⟨.SBC, .abx, some 4, true, .read, true⟩ :=
  entry_of_opcode (o := 0xFD) rfl rfl
@[simp] theorem Instr.entry_incAbx (w : Addr) : Instr.entry (.incAbx w) = ⟨.INC, .abx, some 7, false, .modify, true⟩ :=
  entry_of_opcode (o := 0xFE) rfl rfl
@[simp] theorem Instr.entry_iscAbx (w : Addr) : Instr.entry (.iscAbx w) = ⟨.ISC, .abx, some 7, false, .modify, false⟩ :=
  entry_of_opcode (o := 0xFF) rfl rfl
@[simp] theorem Instr.entry_brk : Instr.entry (.brk) = ⟨.BRK, .imp, some 7, false, .implied, true⟩ :=
  entry_of_opcode (o := 0x00) rfl rfl
@[simp] theorem Instr.entry_jam02 : Instr.entry (.jam02) = ⟨.JAM, .imp, none, false, .jam, false⟩ :=
  entry_of_opcode (o := 0x02) rfl rfl
@[simp] theorem Instr.entry_php : Instr.entry (.php) = ⟨.PHP, .imp, some 3, false, .implied, true⟩ :=
  entry_of_opcode (o := 0x08) rfl rfl
@[simp] theorem Instr.entry_aslAcc : Instr.entry (.aslAcc) = ⟨.ASL, .acc, some 2, false, .implied, true⟩ :=
  entry_of_opcode (o := 0x0A) rfl rfl
@[simp] theorem Instr.entry_jam12 : Instr.entry (.jam12) = ⟨.JAM, .imp, none, false, .jam, false⟩ :=
  entry_of_opcode (o := 0x12) rfl rfl
@[simp] theorem Instr.entry_clc : Instr.entry (.clc) = ⟨.CLC, .imp, some 2, false, .implied, true⟩ :=
  entry_of_opcode (o := 0x18) rfl rfl
@[simp] theorem Instr.entry_nopImp1A : Instr.entry (.nopImp1A) = ⟨.NOP, .imp, some 2, false, .implied, false⟩ :=
  entry_of_opcode (o := 0x1A) rfl rfl
@[simp] theorem Instr.entry_jam22 : Instr.entry (.jam22) = ⟨.JAM, .imp, none, false, .jam, false⟩ :=
  entry_of_opcode (o := 0x22) rfl rfl
@[simp] theorem Instr.entry_plp : Instr.entry (.plp) = ⟨.PLP, .imp, some 4, false, .implied, true⟩ :=
  entry_of_opcode (o := 0x28) rfl rfl
@[simp] theorem Instr.entry_rolAcc : Instr.entry (.rolAcc) = ⟨.ROL, .acc, some 2, false, .implied, true⟩ :=
  entry_of_opcode (o := 0x2A) rfl rfl
@[simp] theorem Instr.entry_jam32 : Instr.entry (.jam32) = ⟨.JAM, .imp, none, false, .jam, false⟩ :=
  entry_of_opcode (o := 0x32) rfl rfl
@[simp] theorem Instr.entry_sec : Instr.entry (.sec) = ⟨.SEC, .imp, some 2, false, .implied, true⟩ :=
  entry_of_opcode (o := 0x38) rfl rfl
@[simp] theorem Instr.entry_nopImp3A : Instr.entry (.nopImp3A) = ⟨.NOP, .imp, some 2, false, .implied, false⟩ :=
  entry_of_opcode (o := 0x3A) rfl rfl
@[simp] theorem Instr.entry_rti : Instr.entry (.rti) = ⟨.RTI, .imp, some 6, false, .implied, true⟩ :=
  entry_of_opcode (o := 0x40) rfl rfl
@[simp] theorem Instr.entry_jam42 : Instr.entry (.jam42) = ⟨.JAM, .imp, none, false, .jam, false⟩ :=
  entry_of_opcode (o := 0x42) rfl rfl
@[simp] theorem Instr.entry_pha : Instr.entry (.pha) = ⟨.PHA, .imp, some 3, false, .implied, true⟩ :=
  entry_of_opcode (o := 0x48) rfl rfl
@[simp] theorem Instr.entry_lsrAcc : Instr.entry (.lsrAcc) = ⟨.LSR, .acc, some 2, false, .implied, true⟩ :=
  entry_of_opcode (o := 0x4A) rfl rfl
@[simp] theorem Instr.entry_jam52 : Instr.entry (.jam52) = ⟨.JAM, .imp, none, false, .jam, false⟩ :=
  entry_of_opcode (o := 0x52) rfl rfl
@[simp] theorem Instr.entry_cli : Instr.entry (.cli) = ⟨.CLI, .imp, some 2, false, .implied, true⟩ :=
  entry_of_opcode (o := 0x58) rfl rfl
@[simp] theorem Instr.entry_nopImp5A : Instr.entry (.nopImp5A) = ⟨.NOP, .imp, some 2, false, .implied, false⟩ :=
  entry_of_opcode (o := 0x5A) rfl rfl
@[simp] theorem Instr.entry_rts : Instr.entry (.rts) = ⟨.RTS, .imp, some 6, false, .implied, true⟩ :=
  entry_of_opcode (o := 0x60) rfl rfl
@[simp] theorem Instr.entry_jam62 : Instr.entry (.jam62) = ⟨.JAM, .imp, none, false, .jam, false⟩ :=
  entry_of_opcode (o := 0x62) rfl rfl
@[simp] theorem Instr.entry_pla : Instr.entry (.pla) = ⟨.PLA, .imp, some 4, false, .implied, true⟩ :=
  entry_of_opcode (o := 0x68) rfl rfl
@[simp] theorem Instr.entry_rorAcc : Instr.entry (.rorAcc) = ⟨.ROR, .acc, some 2, false, .implied, true⟩ :=
  entry_of_opcode (o := 0x6A) rfl rfl
@[simp] theorem Instr.entry_jam72 : Instr.entry (.jam72) = ⟨.JAM, .imp, none, false, .jam, false⟩ :=
  entry_of_opcode (o := 0x72) rfl rfl
@[simp] theorem Instr.entry_sei : Instr.entry (.sei) = ⟨.SEI, .imp, some 2, false, .implied, true⟩ :=
  entry_of_opcode (o := 0x78) rfl rfl
@[simp] theorem Instr.entry_nopImp7A : Instr.entry (.nopImp7A) = ⟨.NOP, .imp, some 2, false, .implied, false⟩ :=
  entry_of_opcode (o := 0x7A) rfl rfl
@[simp] theorem Instr.entry_dey : Instr.entry (.dey) = ⟨.DEY, .imp, some 2, false, .implied, true⟩ :=
  entry_of_opcode (o := 0x88) rfl rfl
@[simp] theorem Instr.entry_txa : Instr.entry (.txa) = ⟨.TXA, .imp, some 2, false, .implied, true⟩ :=
  entry_of_opcode (o := 0x8A) rfl rfl
@[simp] theorem Instr.entry_jam92 : Instr.entry (.jam92) = ⟨.JAM, .imp, none, false, .jam, false⟩ :=
  entry_of_opcode (o := 0x92) rfl rfl
@[simp] theorem Instr.entry_tya : Instr.entry (.tya) = ⟨.TYA, .imp, some 2, false, .implied, true⟩ :=
  entry_of_opcode (o := 0x98) rfl rfl
@[simp] theorem Instr.entry_txs : Instr.entry (.txs) = ⟨.TXS, .imp, some 2, false, .implied, true⟩ :=
  entry_of_opcode (o := 0x9A) rfl rfl
@[simp] theorem Instr.entry_tay : Instr.entry (.tay) = ⟨.TAY, .imp, some 2, false, .implied, true⟩ :=
  entry_of_opcode (o := 0xA8) rfl rfl
@[simp] theorem Instr.entry_tax : Instr.entry (.tax) = ⟨.TAX, .imp, some 2, false, .implied, true⟩ :=
  entry_of_opcode (o := 0xAA) rfl rfl
@[simp] theorem Instr.entry_jamB2 : Instr.entry (.jamB2) = ⟨.JAM, .imp, none, false, .jam, false⟩ :=
  entry_of_opcode (o := 0xB2) rfl rfl
@[simp] theorem Instr.entry_clv : Instr.entry (.clv) = ⟨.CLV, .imp, some 2, false, .implied, true⟩ :=
  entry_of_opcode (o := 0xB8) rfl rfl
@[simp] theorem Instr.entry_tsx : Instr.entry (.tsx) = ⟨.TSX, .imp, some 2, false, .implied, true⟩ :=
  entry_of_opcode (o := 0xBA) rfl rfl
@[simp] theorem Instr.entry_iny : Instr.entry (.iny) = ⟨.INY, .imp, some 2, false, .implied, true⟩ :=
  entry_of_opcode (o := 0xC8) rfl rfl
@[simp] theorem Instr.entry_dex : Instr.entry (.dex) = ⟨.DEX, .imp, some 2, false, .implied, true⟩ :=
  entry_of_opcode (o := 0xCA) rfl rfl
@[simp] theorem Instr.entry_jamD2 : Instr.entry (.jamD2) = ⟨.JAM, .imp, none, false, .jam, false⟩ :=
  entry_of_opcode (o := 0xD2) rfl rfl
@[simp] theorem Instr.entry_cld : Instr.entry (.cld) = ⟨.CLD, .imp, some 2, false, .implied, true⟩ :=
  entry_of_opcode (o := 0xD8) rfl rfl
@[simp] theorem Instr.entry_nopImpDA : Instr.entry (.nopImpDA) = ⟨.NOP, .imp, some 2, false, .implied, false⟩ :=
  entry_of_opcode (o := 0xDA) rfl rfl
@[simp] theorem Instr.entry_inx : Instr.entry (.inx) = ⟨.INX, .imp, some 2, false, .implied, true⟩ :=
  entry_of_opcode (o := 0xE8) rfl rfl
@[simp] theorem Instr.entry_nop : Instr.entry (.nop) = ⟨.NOP, .imp, some 2, false, .implied, true⟩ :=
  entry_of_opcode (o := 0xEA) rfl rfl
@[simp] theorem Instr.entry_jamF2 : Instr.entry (.jamF2) = ⟨.JAM, .imp, none, false, .jam, false⟩ :=
  entry_of_opcode (o := 0xF2) rfl rfl
@[simp] theorem Instr.entry_sed : Instr.entry (.sed) = ⟨.SED, .imp, some 2, false, .implied, true⟩ :=
  entry_of_opcode (o := 0xF8) rfl rfl
@[simp] theorem Instr.entry_nopImpFA : Instr.entry (.nopImpFA) = ⟨.NOP, .imp, some 2, false, .implied, false⟩ :=
  entry_of_opcode (o := 0xFA) rfl rfl

@[simp] theorem Instr.operand_oraIzx (z : Byte) : Instr.operand (.oraIzx z) = .mem (.izx z) := rfl
@[simp] theorem Instr.operand_sloIzx (z : Byte) : Instr.operand (.sloIzx z) = .mem (.izx z) := rfl
@[simp] theorem Instr.operand_nopZp04 (z : Byte) : Instr.operand (.nopZp04 z) = .mem (.zp z) := rfl
@[simp] theorem Instr.operand_oraZp (z : Byte) : Instr.operand (.oraZp z) = .mem (.zp z) := rfl
@[simp] theorem Instr.operand_aslZp (z : Byte) : Instr.operand (.aslZp z) = .mem (.zp z) := rfl
@[simp] theorem Instr.operand_sloZp (z : Byte) : Instr.operand (.sloZp z) = .mem (.zp z) := rfl
@[simp] theorem Instr.operand_oraImm (v : Byte) : Instr.operand (.oraImm v) = .mem (.imm v) := rfl
@[simp] theorem Instr.operand_anc0B (v : Byte) : Instr.operand (.anc0B v) = .mem (.imm v) := rfl
@[simp] theorem Instr.operand_nopAbs0C (w : Addr) : Instr.operand (.nopAbs0C w) = .mem (.abs w) := rfl
@[simp] theorem Instr.operand_oraAbs (w : Addr) : Instr.operand (.oraAbs w) = .mem (.abs w) := rfl
@[simp] theorem Instr.operand_aslAbs (w : Addr) : Instr.operand (.aslAbs w) = .mem (.abs w) := rfl
@[simp] theorem Instr.operand_sloAbs (w : Addr) : Instr.operand (.sloAbs w) = .mem (.abs w) := rfl
@[simp] theorem Instr.operand_bpl (d : Byte) : Instr.operand (.bpl d) = .rel d := rfl
@[simp] theorem Instr.operand_oraIzy (z : Byte) : Instr.operand (.oraIzy z) = .mem (.izy z) := rfl
@[simp] theorem Instr.operand_sloIzy (z : Byte) : Instr.operand (.sloIzy z) = .mem (.izy z) := rfl
@[simp] theorem Instr.operand_nopZpx14 (z : Byte) : Instr.operand (.nopZpx14 z) = .mem (.zpx z) := rfl
@[simp] theorem Instr.operand_oraZpx (z : Byte) : Instr.operand (.oraZpx z) = .mem (.zpx z) := rfl
@[simp] theorem Instr.operand_aslZpx (z : Byte) : Instr.operand (.aslZpx z) = .mem (.zpx z) := rfl
@[simp] theorem Instr.operand_sloZpx (z : Byte) : Instr.operand (.sloZpx z) = .mem (.zpx z) := rfl
@[simp] theorem Instr.operand_oraAby (w : Addr) : Instr.operand (.oraAby w) = .mem (.aby w) := rfl
@[simp] theorem Instr.operand_sloAby (w : Addr) : Instr.operand (.sloAby w) = .mem (.aby w) := rfl
@[simp] theorem Instr.operand_nopAbx1C (w : Addr) : Instr.operand (.nopAbx1C w) = .mem (.abx w) := rfl
@[simp] theorem Instr.operand_oraAbx (w : Addr) : Instr.operand (.oraAbx w) = .mem (.abx w) := rfl
@[simp] theorem Instr.operand_aslAbx (w : Addr) : Instr.operand (.aslAbx w) = .mem (.abx w) := rfl
@[simp] theorem Instr.operand_sloAbx (w : Addr) : Instr.operand (.sloAbx w) = .mem (.abx w) := rfl
@[simp] theorem Instr.operand_jsr (w : Addr) : Instr.operand (.jsr w) = .mem (.abs w) := rfl
@[simp] theorem Instr.operand_andIzx (z : Byte) : Instr.operand (.andIzx z) = .mem (.izx z) := rfl
@[simp] theorem Instr.operand_rlaIzx (z : Byte) : Instr.operand (.rlaIzx z) = .mem (.izx z) := rfl
@[simp] theorem Instr.operand_bitZp (z : Byte) : Instr.operand (.bitZp z) = .mem (.zp z) := rfl
@[simp] theorem Instr.operand_andZp (z : Byte) : Instr.operand (.andZp z) = .mem (.zp z) := rfl
@[simp] theorem Instr.operand_rolZp (z : Byte) : Instr.operand (.rolZp z) = .mem (.zp z) := rfl
@[simp] theorem Instr.operand_rlaZp (z : Byte) : Instr.operand (.rlaZp z) = .mem (.zp z) := rfl
@[simp] theorem Instr.operand_andImm (v : Byte) : Instr.operand (.andImm v) = .mem (.imm v) := rfl
@[simp] theorem Instr.operand_anc2B (v : Byte) : Instr.operand (.anc2B v) = .mem (.imm v) := rfl
@[simp] theorem Instr.operand_bitAbs (w : Addr) : Instr.operand (.bitAbs w) = .mem (.abs w) := rfl
@[simp] theorem Instr.operand_andAbs (w : Addr) : Instr.operand (.andAbs w) = .mem (.abs w) := rfl
@[simp] theorem Instr.operand_rolAbs (w : Addr) : Instr.operand (.rolAbs w) = .mem (.abs w) := rfl
@[simp] theorem Instr.operand_rlaAbs (w : Addr) : Instr.operand (.rlaAbs w) = .mem (.abs w) := rfl
@[simp] theorem Instr.operand_bmi (d : Byte) : Instr.operand (.bmi d) = .rel d := rfl
@[simp] theorem Instr.operand_andIzy (z : Byte) : Instr.operand (.andIzy z) = .mem (.izy z) := rfl
@[simp] theorem Instr.operand_rlaIzy (z : Byte) : Instr.operand (.rlaIzy z) = .mem (.izy z) := rfl
@[simp] theorem Instr.operand_nopZpx34 (z : Byte) : Instr.operand (.nopZpx34 z) = .mem (.zpx z) := rfl
@[simp] theorem Instr.operand_andZpx (z : Byte) : Instr.operand (.andZpx z) = .mem (.zpx z) := rfl
@[simp] theorem Instr.operand_rolZpx (z : Byte) : Instr.operand (.rolZpx z) = .mem (.zpx z) := rfl
@[simp] theorem Instr.operand_rlaZpx (z : Byte) : Instr.operand (.rlaZpx z) = .mem (.zpx z) := rfl
@[simp] theorem Instr.operand_andAby (w : Addr) : Instr.operand (.andAby w) = .mem (.aby w) := rfl
@[simp] theorem Instr.operand_rlaAby (w : Addr) : Instr.operand (.rlaAby w) = .mem (.aby w) := rfl
@[simp] theorem Instr.operand_nopAbx3C (w : Addr) : Instr.operand (.nopAbx3C w) = .mem (.abx w) := rfl
@[simp] theorem Instr.operand_andAbx (w : Addr) : Instr.operand (.andAbx w) = .mem (.abx w) := rfl
@[simp] theorem Instr.operand_rolAbx (w : Addr) : Instr.operand (.rolAbx w) = .mem (.abx w) := rfl
@[simp] theorem Instr.operand_rlaAbx (w : Addr) : Instr.operand (.rlaAbx w) = .mem (.abx w) := rfl
@[simp] theorem Instr.operand_eorIzx (z : Byte) : Instr.operand (.eorIzx z) = .mem (.izx z) := rfl
@[simp] theorem Instr.operand_sreIzx (z : Byte) : Instr.operand (.sreIzx z) = .mem (.izx z) := rfl
@[simp] theorem Instr.operand_nopZp44 (z : Byte) : Instr.operand (.nopZp44 z) = .mem (.zp z) := rfl
@[simp] theorem Instr.operand_eorZp (z : Byte) : Instr.operand (.eorZp z) = .mem (.zp z) := rfl
@[simp] theorem Instr.operand_lsrZp (z : Byte) : Instr.operand (.lsrZp z) = .mem (.zp z) := rfl
@[simp] theorem Instr.operand_sreZp (z : Byte) : Instr.operand (.sreZp z) = .mem (.zp z) := rfl
@[simp] theorem Instr.operand_eorImm (v : Byte) : Instr.operand (.eorImm v) = .mem (.imm v) := rfl
@[simp] theorem Instr.operand_alr (v : Byte) : Instr.operand (.alr v) = .mem (.imm v) := rfl
@[simp] theorem Instr.operand_jmpAbs (w : Addr) : Instr.operand (.jmpAbs w) = .mem (.abs w) := rfl
@[simp] theorem Instr.operand_eorAbs (w : Addr) : Instr.operand (.eorAbs w) = .mem (.abs w) := rfl
@[simp] theorem Instr.operand_lsrAbs (w : Addr) : Instr.operand (.lsrAbs w) = .mem (.abs w) := rfl
@[simp] theorem Instr.operand_sreAbs (w : Addr) : Instr.operand (.sreAbs w) = .mem (.abs w) := rfl
@[simp] theorem Instr.operand_bvc (d : Byte) : Instr.operand (.bvc d) = .rel d := rfl
@[simp] theorem Instr.operand_eorIzy (z : Byte) : Instr.operand (.eorIzy z) = .mem (.izy z) := rfl
@[simp] theorem Instr.operand_sreIzy (z : Byte) : Instr.operand (.sreIzy z) = .mem (.izy z) := rfl
@[simp] theorem Instr.operand_nopZpx54 (z : Byte) : Instr.operand (.nopZpx54 z) = .mem (.zpx z) := rfl
@[simp] theorem Instr.operand_eorZpx (z : Byte) : Instr.operand (.eorZpx z) = .mem (.zpx z) := rfl
@[simp] theorem Instr.operand_lsrZpx (z : Byte) : Instr.operand (.lsrZpx z) = .mem (.zpx z) := rfl
@[simp] theorem Instr.operand_sreZpx (z : Byte) : Instr.operand (.sreZpx z) = .mem (.zpx z) := rfl
@[simp] theorem Instr.operand_eorAby (w : Addr) : Instr.operand (.eorAby w) = .mem (.aby w) := rfl
@[simp] theorem Instr.operand_sreAby (w : Addr) : Instr.operand (.sreAby w) = .mem (.aby w) := rfl
@[simp] theorem Instr.operand_nopAbx5C (w : Addr) : Instr.operand (.nopAbx5C w) = .mem (.abx w) := rfl
@[simp] theorem Instr.operand_eorAbx (w : Addr) : Instr.operand (.eorAbx w) = .mem (.abx w) := rfl
@[simp] theorem Instr.operand_lsrAbx (w : Addr) : Instr.operand (.lsrAbx w) = .mem (.abx w) := rfl
@[simp] theorem Instr.operand_sreAbx (w : Addr) : Instr.operand (.sreAbx w) = .mem (.abx w) := rfl
@[simp] theorem Instr.operand_adcIzx (z : Byte) : Instr.operand (.adcIzx z) = .mem (.izx z) := rfl
@[simp] theorem Instr.operand_rraIzx (z : Byte) : Instr.operand (.rraIzx z) = .mem (.izx z) := rfl
@[simp] theorem Instr.operand_nopZp64 (z : Byte) : Instr.operand (.nopZp64 z) = .mem (.zp z) := rfl
@[simp] theorem Instr.operand_adcZp (z : Byte) : Instr.operand (.adcZp z) = .mem (.zp z) := rfl
@[simp] theorem Instr.operand_rorZp (z : Byte) : Instr.operand (.rorZp z) = .mem (.zp z) := rfl
@[simp] theorem Instr.operand_rraZp (z : Byte) : Instr.operand (.rraZp z) = .mem (.zp z) := rfl
@[simp] theorem Instr.operand_adcImm (v : Byte) : Instr.operand (.adcImm v) = .mem (.imm v) := rfl
@[simp] theorem Instr.operand_arr (v : Byte) : Instr.operand (.arr v) = .mem (.imm v) := rfl
@[simp] theorem Instr.operand_jmpInd (w : Addr) : Instr.operand (.jmpInd w) = .ind w := rfl
@[simp] theorem Instr.operand_adcAbs (w : Addr) : Instr.operand (.adcAbs w) = .mem (.abs w) := rfl
@[simp] theorem Instr.operand_rorAbs (w : Addr) : Instr.operand (.rorAbs w) = .mem (.abs w) := rfl
@[simp] theorem Instr.operand_rraAbs (w : Addr) : Instr.operand (.rraAbs w) = .mem (.abs w) := rfl
@[simp] theorem Instr.operand_bvs (d : Byte) : Instr.operand (.bvs d) = .rel d := rfl
@[simp] theorem Instr.operand_adcIzy (z : Byte) : Instr.operand (.adcIzy z) = .mem (.izy z) := rfl
@[simp] theorem Instr.operand_rraIzy (z : Byte) : Instr.operand (.rraIzy z) = .mem (.izy z) := rfl
@[simp] theorem Instr.operand_nopZpx74 (z : Byte) : Instr.operand (.nopZpx74 z) = .mem (.zpx z) := rfl
@[simp] theorem Instr.operand_adcZpx (z : Byte) : Instr.operand (.adcZpx z) = .mem (.zpx z) := rfl
@[simp] theorem Instr.operand_rorZpx (z : Byte) : Instr.operand (.rorZpx z) = .mem (.zpx z) := rfl
@[simp] theorem Instr.operand_rraZpx (z : Byte) : Instr.operand (.rraZpx z) = .mem (.zpx z) := rfl
@[simp] theorem Instr.operand_adcAby (w : Addr) : Instr.operand (.adcAby w) = .mem (.aby w) := rfl
@[simp] theorem Instr.operand_rraAby (w : Addr) : Instr.operand (.rraAby w) = .mem (.aby w) := rfl
@[simp] theorem Instr.operand_nopAbx7C (w : Addr) : Instr.operand (.nopAbx7C w) = .mem (.abx w) := rfl
@[simp] theorem Instr.operand_adcAbx (w : Addr) : Instr.operand (.adcAbx w) = .mem (.abx w) := rfl
@[simp] theorem Instr.operand_rorAbx (w : Addr) : Instr.operand (.rorAbx w) = .mem (.abx w) := rfl
@[simp] theorem Instr.operand_rraAbx (w : Addr) : Instr.operand (.rraAbx w) = .mem (.abx w) := rfl
@[simp] theorem Instr.operand_nopImm80 (v : Byte) : Instr.operand (.nopImm80 v) = .mem (.imm v) := rfl
@[simp] theorem Instr.operand_staIzx (z : Byte) : Instr.operand (.staIzx z) = .mem (.izx z) := rfl
@[simp] theorem Instr.operand_nopImm82 (v : Byte) : Instr.operand (.nopImm82 v) = .mem (.imm v) := rfl
@[simp] theorem Instr.operand_saxIzx (z : Byte) : Instr.operand (.saxIzx z) = .mem (.izx z) := rfl
@[simp] theorem Instr.operand_styZp (z : Byte) : Instr.operand (.styZp z) = .mem (.zp z) := rfl
@[simp] theorem Instr.operand_staZp (z : Byte) : Instr.operand (.staZp z) = .mem (.zp z) := rfl
@[simp] theorem Instr.operand_stxZp (z : Byte) : Instr.operand (.stxZp z) = .mem (.zp z) := rfl
@[simp] theorem Instr.operand_saxZp (z : Byte) : Instr.operand (.saxZp z) = .mem (.zp z) := rfl
@[simp] theorem Instr.operand_nopImm89 (v : Byte) : Instr.operand (.nopImm89 v) = .mem (.imm v) := rfl
@[simp] theorem Instr.operand_ane (v : Byte) : Instr.operand (.ane v) = .mem (.imm v) := rfl
@[simp] theorem Instr.operand_styAbs (w : Addr) : Instr.operand (.styAbs w) = .mem (.abs w) := rfl
@[simp] theorem Instr.operand_staAbs (w : Addr) : Instr.operand (.staAbs w) = .mem (.abs w) := rfl
@[simp] theorem Instr.operand_stxAbs (w : Addr) : Instr.operand (.stxAbs w) = .mem (.abs w) := rfl
@[simp] theorem Instr.operand_saxAbs (w : Addr) : Instr.operand (.saxAbs w) = .mem (.abs w) := rfl
@[simp] theorem Instr.operand_bcc (d : Byte) : Instr.operand (.bcc d) = .rel d := rfl
@[simp] theorem Instr.operand_staIzy (z : Byte) : Instr.operand (.staIzy z) = .mem (.izy z) := rfl
@[simp] theorem Instr.operand_shaIzy (z : Byte) : Instr.operand (.shaIzy z) = .mem (.izy z) := rfl
@[simp] theorem Instr.operand_styZpx (z : Byte) : Instr.operand (.styZpx z) = .mem (.zpx z) := rfl
@[simp] theorem Instr.operand_staZpx (z : Byte) : Instr.operand (.staZpx z) = .mem (.zpx z) := rfl
@[simp] theorem Instr.operand_stxZpy (z : Byte) : Instr.operand (.stxZpy z) = .mem (.zpy z) := rfl
@[simp] theorem Instr.operand_saxZpy (z : Byte) : Instr.operand (.saxZpy z) = .mem (.zpy z) := rfl
@[simp] theorem Instr.operand_staAby (w : Addr) : Instr.operand (.staAby w) = .mem (.aby w) := rfl
@[simp] theorem Instr.operand_tas (w : Addr) : Instr.operand (.tas w) = .mem (.aby w) := rfl
@[simp] theorem Instr.operand_shy (w : Addr) : Instr.operand (.shy w) = .mem (.abx w) := rfl
@[simp] theorem Instr.operand_staAbx (w : Addr) : Instr.operand (.staAbx w) = .mem (.abx w) := rfl
@[simp] theorem Instr.operand_shx (w : Addr) : Instr.operand (.shx w) = .mem (.aby w) := rfl
@[simp] theorem Instr.operand_shaAby (w : Addr) : Instr.operand (.shaAby w) = .mem (.aby w) := rfl
@[simp] theorem Instr.operand_ldyImm (v : Byte) : Instr.operand (.ldyImm v) = .mem (.imm v) := rfl
@[simp] theorem Instr.operand_ldaIzx (z : Byte) : Instr.operand (.ldaIzx z) = .mem (.izx z) := rfl
@[simp] theorem Instr.operand_ldxImm (v : Byte) : Instr.operand (.ldxImm v) = .mem (.imm v) := rfl
@[simp] theorem Instr.operand_laxIzx (z : Byte) : Instr.operand (.laxIzx z) = .mem (.izx z) := rfl
@[simp] theorem Instr.operand_ldyZp (z : Byte) : Instr.operand (.ldyZp z) = .mem (.zp z) := rfl
@[simp] theorem Instr.operand_ldaZp (z : Byte) : Instr.operand (.ldaZp z) = .mem (.zp z) := rfl
@[simp] theorem Instr.operand_ldxZp (z : Byte) : Instr.operand (.ldxZp z) = .mem (.zp z) := rfl
@[simp] theorem Instr.operand_laxZp (z : Byte) : Instr.operand (.laxZp z) = .mem (.zp z) := rfl
@[simp] theorem Instr.operand_ldaImm (v : Byte) : Instr.operand (.ldaImm v) = .mem (.imm v) := rfl
@[simp] theorem Instr.operand_lxa (v : Byte) : Instr.operand (.lxa v) = .mem (.imm v) := rfl
@[simp] theorem Instr.operand_ldyAbs (w : Addr) : Instr.operand (.ldyAbs w) = .mem (.abs w) := rfl
@[simp] theorem Instr.operand_ldaAbs (w : Addr) : Instr.operand (.ldaAbs w) = .mem (.abs w) := rfl
@[simp] theorem Instr.operand_ldxAbs (w : Addr) : Instr.operand (.ldxAbs w) = .mem (.abs w) := rfl
@[simp] theorem Instr.operand_laxAbs (w : Addr) : Instr.operand (.laxAbs w) = .mem (.abs w) := rfl
@[simp] theorem Instr.operand_bcs (d : Byte) : Instr.operand (.bcs d) = .rel d := rfl
@[simp] theorem Instr.operand_ldaIzy (z : Byte) : Instr.operand (.ldaIzy z) = .mem (.izy z) := rfl
@[simp] theorem Instr.operand_laxIzy (z : Byte) : Instr.operand (.laxIzy z) = .mem (.izy z) := rfl
@[simp] theorem Instr.operand_ldyZpx (z : Byte) : Instr.operand (.ldyZpx z) = .mem (.zpx z) := rfl
@[simp] theorem Instr.operand_ldaZpx (z : Byte) : Instr.operand (.ldaZpx z) = .mem (.zpx z) := rfl
@[simp] theorem Instr.operand_ldxZpy (z : Byte) : Instr.operand (.ldxZpy z) = .mem (.zpy z) := rfl
@[simp] theorem Instr.operand_laxZpy (z : Byte) : Instr.operand (.laxZpy z) = .mem (.zpy z) := rfl
@[simp] theorem Instr.operand_ldaAby (w : Addr) : Instr.operand (.ldaAby w) = .mem (.aby w) := rfl
@[simp] theorem Instr.operand_las (w : Addr) : Instr.operand (.las w) = .mem (.aby w) := rfl
@[simp] theorem Instr.operand_ldyAbx (w : Addr) : Instr.operand (.ldyAbx w) = .mem (.abx w) := rfl
@[simp] theorem Instr.operand_ldaAbx (w : Addr) : Instr.operand (.ldaAbx w) = .mem (.abx w) := rfl
@[simp] theorem Instr.operand_ldxAby (w : Addr) : Instr.operand (.ldxAby w) = .mem (.aby w) := rfl
@[simp] theorem Instr.operand_laxAby (w : Addr) : Instr.operand (.laxAby w) = .mem (.aby w) := rfl
@[simp] theorem Instr.operand_cpyImm (v : Byte) : Instr.operand (.cpyImm v) = .mem (.imm v) := rfl
@[simp] theorem Instr.operand_cmpIzx (z : Byte) : Instr.operand (.cmpIzx z) = .mem (.izx z) := rfl
@[simp] theorem Instr.operand_nopImmC2 (v : Byte) : Instr.operand (.nopImmC2 v) = .mem (.imm v) := rfl
@[simp] theorem Instr.operand_dcpIzx (z : Byte) : Instr.operand (.dcpIzx z) = .mem (.izx z) := rfl
@[simp] theorem Instr.operand_cpyZp (z : Byte) : Instr.operand (.cpyZp z) = .mem (.zp z) := rfl
@[simp] theorem Instr.operand_cmpZp (z : Byte) : Instr.operand (.cmpZp z) = .mem (.zp z) := rfl
@[simp] theorem Instr.operand_decZp (z : Byte) : Instr.operand (.decZp z) = .mem (.zp z) := rfl
@[simp] theorem Instr.operand_dcpZp (z : Byte) : Instr.operand (.dcpZp z) = .mem (.zp z) := rfl
@[simp] theorem Instr.operand_cmpImm (v : Byte) : Instr.operand (.cmpImm v) = .mem (.imm v) := rfl
@[simp] theorem Instr.operand_sbx (v : Byte) : Instr.operand (.sbx v) = .mem (.imm v) := rfl
@[simp] theorem Instr.operand_cpyAbs (w : Addr) : Instr.operand (.cpyAbs w) = .mem (.abs w) := rfl
@[simp] theorem Instr.operand_cmpAbs (w : Addr) : Instr.operand (.cmpAbs w) = .mem (.abs w) := rfl
@[simp] theorem Instr.operand_decAbs (w : Addr) : Instr.operand (.decAbs w) = .mem (.abs w) := rfl
@[simp] theorem Instr.operand_dcpAbs (w : Addr) : Instr.operand (.dcpAbs w) = .mem (.abs w) := rfl
@[simp] theorem Instr.operand_bne (d : Byte) : Instr.operand (.bne d) = .rel d := rfl
@[simp] theorem Instr.operand_cmpIzy (z : Byte) : Instr.operand (.cmpIzy z) = .mem (.izy z) := rfl
@[simp] theorem Instr.operand_dcpIzy (z : Byte) : Instr.operand (.dcpIzy z) = .mem (.izy z) := rfl
@[simp] theorem Instr.operand_nopZpxD4 (z : Byte) : Instr.operand (.nopZpxD4 z) = .mem (.zpx z) := rfl
@[simp] theorem Instr.operand_cmpZpx (z : Byte) : Instr.operand (.cmpZpx z) = .mem (.zpx z) := rfl
@[simp] theorem Instr.operand_decZpx (z : Byte) : Instr.operand (.decZpx z) = .mem (.zpx z) := rfl
@[simp] theorem Instr.operand_dcpZpx (z : Byte) : Instr.operand (.dcpZpx z) = .mem (.zpx z) := rfl
@[simp] theorem Instr.operand_cmpAby (w : Addr) : Instr.operand (.cmpAby w) = .mem (.aby w) := rfl
@[simp] theorem Instr.operand_dcpAby (w : Addr) : Instr.operand (.dcpAby w) = .mem (.aby w) := rfl
@[simp] theorem Instr.operand_nopAbxDC (w : Addr) : Instr.operand (.nopAbxDC w) = .mem (.abx w) := rfl
@[simp] theorem Instr.operand_cmpAbx (w : Addr) : Instr.operand (.cmpAbx w) = .mem (.abx w) := rfl
@[simp] theorem Instr.operand_decAbx (w : Addr) : Instr.operand (.decAbx w) = .mem (.abx w) := rfl
@[simp] theorem Instr.operand_dcpAbx (w : Addr) : Instr.operand (.dcpAbx w) = .mem (.abx w) := rfl
@[simp] theorem Instr.operand_cpxImm (v : Byte) : Instr.operand (.cpxImm v) = .mem (.imm v) := rfl
@[simp] theorem Instr.operand_sbcIzx (z : Byte) : Instr.operand (.sbcIzx z) = .mem (.izx z) := rfl
@[simp] theorem Instr.operand_nopImmE2 (v : Byte) : Instr.operand (.nopImmE2 v) = .mem (.imm v) := rfl
@[simp] theorem Instr.operand_iscIzx (z : Byte) : Instr.operand (.iscIzx z) = .mem (.izx z) := rfl
@[simp] theorem Instr.operand_cpxZp (z : Byte) : Instr.operand (.cpxZp z) = .mem (.zp z) := rfl
@[simp] theorem Instr.operand_sbcZp (z : Byte) : Instr.operand (.sbcZp z) = .mem (.zp z) := rfl
@[simp] theorem Instr.operand_incZp (z : Byte) : Instr.operand (.incZp z) = .mem (.zp z) := rfl
@[simp] theorem Instr.operand_iscZp (z : Byte) : Instr.operand (.iscZp z) = .mem (.zp z) := rfl
@[simp] theorem Instr.operand_sbcImm (v : Byte) : Instr.operand (.sbcImm v) = .mem (.imm v) := rfl
@[simp] theorem Instr.operand_usbc (v : Byte) : Instr.operand (.usbc v) = .mem (.imm v) := rfl
@[simp] theorem Instr.operand_cpxAbs (w : Addr) : Instr.operand (.cpxAbs w) = .mem (.abs w) := rfl
@[simp] theorem Instr.operand_sbcAbs (w : Addr) : Instr.operand (.sbcAbs w) = .mem (.abs w) := rfl
@[simp] theorem Instr.operand_incAbs (w : Addr) : Instr.operand (.incAbs w) = .mem (.abs w) := rfl
@[simp] theorem Instr.operand_iscAbs (w : Addr) : Instr.operand (.iscAbs w) = .mem (.abs w) := rfl
@[simp] theorem Instr.operand_beq (d : Byte) : Instr.operand (.beq d) = .rel d := rfl
@[simp] theorem Instr.operand_sbcIzy (z : Byte) : Instr.operand (.sbcIzy z) = .mem (.izy z) := rfl
@[simp] theorem Instr.operand_iscIzy (z : Byte) : Instr.operand (.iscIzy z) = .mem (.izy z) := rfl
@[simp] theorem Instr.operand_nopZpxF4 (z : Byte) : Instr.operand (.nopZpxF4 z) = .mem (.zpx z) := rfl
@[simp] theorem Instr.operand_sbcZpx (z : Byte) : Instr.operand (.sbcZpx z) = .mem (.zpx z) := rfl
@[simp] theorem Instr.operand_incZpx (z : Byte) : Instr.operand (.incZpx z) = .mem (.zpx z) := rfl
@[simp] theorem Instr.operand_iscZpx (z : Byte) : Instr.operand (.iscZpx z) = .mem (.zpx z) := rfl
@[simp] theorem Instr.operand_sbcAby (w : Addr) : Instr.operand (.sbcAby w) = .mem (.aby w) := rfl
@[simp] theorem Instr.operand_iscAby (w : Addr) : Instr.operand (.iscAby w) = .mem (.aby w) := rfl
@[simp] theorem Instr.operand_nopAbxFC (w : Addr) : Instr.operand (.nopAbxFC w) = .mem (.abx w) := rfl
@[simp] theorem Instr.operand_sbcAbx (w : Addr) : Instr.operand (.sbcAbx w) = .mem (.abx w) := rfl
@[simp] theorem Instr.operand_incAbx (w : Addr) : Instr.operand (.incAbx w) = .mem (.abx w) := rfl
@[simp] theorem Instr.operand_iscAbx (w : Addr) : Instr.operand (.iscAbx w) = .mem (.abx w) := rfl
@[simp] theorem Instr.operand_brk : Instr.operand (.brk) = .imp := rfl
@[simp] theorem Instr.operand_jam02 : Instr.operand (.jam02) = .imp := rfl
@[simp] theorem Instr.operand_php : Instr.operand (.php) = .imp := rfl
@[simp] theorem Instr.operand_aslAcc : Instr.operand (.aslAcc) = .acc := rfl
@[simp] theorem Instr.operand_jam12 : Instr.operand (.jam12) = .imp := rfl
@[simp] theorem Instr.operand_clc : Instr.operand (.clc) = .imp := rfl
@[simp] theorem Instr.operand_nopImp1A : Instr.operand (.nopImp1A) = .imp := rfl
@[simp] theorem Instr.operand_jam22 : Instr.operand (.jam22) = .imp := rfl
@[simp] theorem Instr.operand_plp : Instr.operand (.plp) = .imp := rfl
@[simp] theorem Instr.operand_rolAcc : Instr.operand (.rolAcc) = .acc := rfl
@[simp] theorem Instr.operand_jam32 : Instr.operand (.jam32) = .imp := rfl
@[simp] theorem Instr.operand_sec : Instr.operand (.sec) = .imp := rfl
@[simp] theorem Instr.operand_nopImp3A : Instr.operand (.nopImp3A) = .imp := rfl
@[simp] theorem Instr.operand_rti : Instr.operand (.rti) = .imp := rfl
@[simp] theorem Instr.operand_jam42 : Instr.operand (.jam42) = .imp := rfl
@[simp] theorem Instr.operand_pha : Instr.operand (.pha) = .imp := rfl
@[simp] theorem Instr.operand_lsrAcc : Instr.operand (.lsrAcc) = .acc := rfl
@[simp] theorem Instr.operand_jam52 : Instr.operand (.jam52) = .imp := rfl
@[simp] theorem Instr.operand_cli : Instr.operand (.cli) = .imp := rfl
@[simp] theorem Instr.operand_nopImp5A : Instr.operand (.nopImp5A) = .imp := rfl
@[simp] theorem Instr.operand_rts : Instr.operand (.rts) = .imp := rfl
@[simp] theorem Instr.operand_jam62 : Instr.operand (.jam62) = .imp := rfl
@[simp] theorem Instr.operand_pla : Instr.operand (.pla) = .imp := rfl
@[simp] theorem Instr.operand_rorAcc : Instr.operand (.rorAcc) = .acc := rfl
@[simp] theorem Instr.operand_jam72 : Instr.operand (.jam72) = .imp := rfl
@[simp] theorem Instr.operand_sei : Instr.operand (.sei) = .imp := rfl
@[simp] theorem Instr.operand_nopImp7A : Instr.operand (.nopImp7A) = .imp := rfl
@[simp] theorem Instr.operand_dey : Instr.operand (.dey) = .imp := rfl
@[simp] theorem Instr.operand_txa : Instr.operand (.txa) = .imp := rfl
@[simp] theorem Instr.operand_jam92 : Instr.operand (.jam92) = .imp := rfl
@[simp] theorem Instr.operand_tya : Instr.operand (.tya) = .imp := rfl
@[simp] theorem Instr.operand_txs : Instr.operand (.txs) = .imp := rfl
@[simp] theorem Instr.operand_tay : Instr.operand (.tay) = .imp := rfl
@[simp] theorem Instr.operand_tax : Instr.operand (.tax) = .imp := rfl
@[simp] theorem Instr.operand_jamB2 : Instr.operand (.jamB2) = .imp := rfl
@[simp] theorem Instr.operand_clv : Instr.operand (.clv) = .imp := rfl
@[simp] theorem Instr.operand_tsx : Instr.operand (.tsx) = .imp := rfl
@[simp] theorem Instr.operand_iny : Instr.operand (.iny) = .imp := rfl
@[simp] theorem Instr.operand_dex : Instr.operand (.dex) = .imp := rfl
@[simp] theorem Instr.operand_jamD2 : Instr.operand (.jamD2) = .imp := rfl
@[simp] theorem Instr.operand_cld : Instr.operand (.cld) = .imp := rfl
@[simp] theorem Instr.operand_nopImpDA : Instr.operand (.nopImpDA) = .imp := rfl
@[simp] theorem Instr.operand_inx : Instr.operand (.inx) = .imp := rfl
@[simp] theorem Instr.operand_nop : Instr.operand (.nop) = .imp := rfl
@[simp] theorem Instr.operand_jamF2 : Instr.operand (.jamF2) = .imp := rfl
@[simp] theorem Instr.operand_sed : Instr.operand (.sed) = .imp := rfl
@[simp] theorem Instr.operand_nopImpFA : Instr.operand (.nopImpFA) = .imp := rfl

end Sys2Proof
end

