-- ==== Sys2Proof/Laws/Decode.lean ====
section
/-! SUPPORT. Laws of bytes and words (spec/00_scope.md R8) and of the decoder (spec/30_encoding.md R80 to R89). -/

namespace Sys2Proof

/-! ### Bytes and words -/


theorem hiByte_toNat (w : Addr) : (hiByte w).toNat = w.toNat / 256 := by
  have := w.isLt
  simp [hiByte, Nat.shiftRight_eq_div_pow]
  omega

theorem loByte_toNat (w : Addr) : (loByte w).toNat = w.toNat % 256 := by
  simp [loByte]

theorem wordOf_toNat (h l : Byte) : (wordOf h l).toNat = 256 * h.toNat + l.toNat := by
  simp only [wordOf]
  rw [BitVec.toNat_append, ← Nat.shiftLeft_add_eq_or_of_lt l.isLt, Nat.shiftLeft_eq]
  omega

@[simp] theorem wordOf_hiByte_loByte (w : Addr) : wordOf (hiByte w) (loByte w) = w := by
  apply BitVec.eq_of_toNat_eq
  rw [wordOf_toNat, hiByte_toNat, loByte_toNat]
  omega

@[simp] theorem hiByte_wordOf (h l : Byte) : hiByte (wordOf h l) = h := by
  apply BitVec.eq_of_toNat_eq
  rw [hiByte_toNat, wordOf_toNat]
  omega

@[simp] theorem loByte_wordOf (h l : Byte) : loByte (wordOf h l) = l := by
  apply BitVec.eq_of_toNat_eq
  rw [loByte_toNat, wordOf_toNat]
  omega

theorem wordOf_inj {h l h' l' : Byte} : wordOf h l = wordOf h' l' ↔ h = h' ∧ l = l' := by
  refine ⟨fun e => ⟨?_, ?_⟩, fun e => by rw [e.1, e.2]⟩
  · simpa using congrArg hiByte e
  · simpa using congrArg loByte e
/-! ### The decoder -/

theorem opcode_at (b1 b2 : Byte) (r c : Nat) (hr : r < 16) (hc : c < 16) :
    (decodeOpcode (BitVec.ofNat 8 (16 * r + c)) b1 b2).opcode = BitVec.ofNat 8 (16 * r + c) := by
  interval_cases r <;> interval_cases c <;> rfl

@[simp] theorem opcode_decodeOpcode (o b1 b2 : Byte) : (decodeOpcode o b1 b2).opcode = o := by
  have h := opcode_at b1 b2 (o.toNat / 16) (o.toNat % 16) (by omega) (by omega)
  rwa [Nat.div_add_mod, BitVec.ofNat_toNat, BitVec.setWidth_eq] at h

/-- The operand of mode `m` whose bytes are `b1` and `b2`, as far as the mode has them (spec/30_encoding.md R81, R85). -/
def operandOfBytes (m : Mode) (b1 b2 : Byte) : Operand :=
  match m with
  | .imp => .imp
  | .acc => .acc
  | .imm => .mem (.imm b1)
  | .zp => .mem (.zp b1)
  | .zpx => .mem (.zpx b1)
  | .zpy => .mem (.zpy b1)
  | .rel => .rel b1
  | .abs => .mem (.abs (wordOf b2 b1))
  | .abx => .mem (.abx (wordOf b2 b1))
  | .aby => .mem (.aby (wordOf b2 b1))
  | .ind => .ind (wordOf b2 b1)
  | .izx => .mem (.izx b1)
  | .izy => .mem (.izy b1)

theorem operand_at (b1 b2 : Byte) (r c : Nat) (hr : r < 16) (hc : c < 16) :
    (decodeOpcode (BitVec.ofNat 8 (16 * r + c)) b1 b2).operand =
      operandOfBytes (opcodeTable (BitVec.ofNat 8 (16 * r + c))).mode b1 b2 := by
  interval_cases r <;> interval_cases c <;> rfl

/-- The operand of a decoded instruction is the one its mode makes of the bytes after the opcode. -/
theorem operand_decodeOpcode (o b1 b2 : Byte) :
    (decodeOpcode o b1 b2).operand = operandOfBytes (opcodeTable o).mode b1 b2 := by
  have h := operand_at b1 b2 (o.toNat / 16) (o.toNat % 16) (by omega) (by omega)
  rwa [Nat.div_add_mod, BitVec.ofNat_toNat, BitVec.setWidth_eq] at h

/-- An instruction is read back from its opcode and its operand bytes, missing bytes being 0. -/
theorem decodeOpcode_bytes (i : Instr) : decodeOpcode i.opcode (i.operand.bytes.getD 0 0) (i.operand.bytes.getD 1 0) = i := by
  have rebuild (f : Addr → Instr) (w : Addr) : f (wordOf (hiByte w) (loByte w)) = f w := by rw [wordOf_hiByte_loByte]
  cases i <;> simp only [Instr.opcode] <;> first | rfl | exact rebuild _ _

/-- A one-byte instruction does not depend on the bytes after it, a two-byte one not on the second. -/
theorem decodeOpcode_ignores (o b1 b2 : Byte) :
    ((opcodeTable o).mode.format = .F1 → decodeOpcode o b1 b2 = decodeOpcode o 0 0) ∧
    ((opcodeTable o).mode.format = .F2 → decodeOpcode o b1 b2 = decodeOpcode o b1 0) := by
  have h := decodeOpcode_bytes (decodeOpcode o b1 b2)
  rw [opcode_decodeOpcode, operand_decodeOpcode] at h
  generalize (opcodeTable o).mode = m at h ⊢
  cases m <;> simp [operandOfBytes, Operand.bytes, Mode.format] at h ⊢ <;> exact h.symm

/-- Three bytes are always enough, and `decode` reads from them what `decodeOpcode` gives. -/
theorem decode_three (o b1 b2 : Byte) :
    decode [o, b1, b2] = .instr (decodeOpcode o b1 b2) ([b1, b2].drop (operandBytes o)) := by
  have h := decodeOpcode_ignores o b1 b2
  simp only [decode, operandBytes]
  generalize (opcodeTable o).mode.format = f at h ⊢
  cases f
  · rw [h.1 rfl]
    rfl
  · rw [h.2 rfl]
    rfl
  · rfl

end Sys2Proof
end

