-- ==== Sys2Proof/Laws/State.lean ====
section
/-! SUPPORT. One lemma for each field and each update of the state and of the flags, so that no proof unfolds a record. -/

namespace Sys2Proof.Machine

/-! ### Updates of the state -/

@[simp] theorem State.setA_a (s : State) (v : Byte) : (s.setA v).a = v := rfl
@[simp] theorem State.setA_x (s : State) (v : Byte) : (s.setA v).x = s.x := rfl
@[simp] theorem State.setA_y (s : State) (v : Byte) : (s.setA v).y = s.y := rfl
@[simp] theorem State.setA_sp (s : State) (v : Byte) : (s.setA v).sp = s.sp := rfl
@[simp] theorem State.setA_pc (s : State) (v : Byte) : (s.setA v).pc = s.pc := rfl
@[simp] theorem State.setA_flags (s : State) (v : Byte) : (s.setA v).flags = s.flags := rfl
@[simp] theorem State.setA_halted (s : State) (v : Byte) : (s.setA v).halted = s.halted := rfl
@[simp] theorem State.setA_irqLine (s : State) (v : Byte) : (s.setA v).irqLine = s.irqLine := rfl
@[simp] theorem State.setA_nmiLine (s : State) (v : Byte) : (s.setA v).nmiLine = s.nmiLine := rfl
@[simp] theorem State.setA_nmiPending (s : State) (v : Byte) : (s.setA v).nmiPending = s.nmiPending := rfl
@[simp] theorem State.setA_cycles (s : State) (v : Byte) : (s.setA v).cycles = s.cycles := rfl
@[simp] theorem State.setA_outcome (s : State) (v : Byte) : (s.setA v).outcome = s.outcome := rfl
@[simp] theorem State.setA_mem (s : State) (v : Byte) : (s.setA v).mem = s.mem := rfl
@[simp] theorem State.setA_bus (s : State) (v : Byte) : (s.setA v).bus = s.bus := rfl
@[simp] theorem State.setA_devices (s : State) (v : Byte) : (s.setA v).devices = s.devices := rfl

@[simp] theorem State.setX_a (s : State) (v : Byte) : (s.setX v).a = s.a := rfl
@[simp] theorem State.setX_x (s : State) (v : Byte) : (s.setX v).x = v := rfl
@[simp] theorem State.setX_y (s : State) (v : Byte) : (s.setX v).y = s.y := rfl
@[simp] theorem State.setX_sp (s : State) (v : Byte) : (s.setX v).sp = s.sp := rfl
@[simp] theorem State.setX_pc (s : State) (v : Byte) : (s.setX v).pc = s.pc := rfl
@[simp] theorem State.setX_flags (s : State) (v : Byte) : (s.setX v).flags = s.flags := rfl
@[simp] theorem State.setX_halted (s : State) (v : Byte) : (s.setX v).halted = s.halted := rfl
@[simp] theorem State.setX_irqLine (s : State) (v : Byte) : (s.setX v).irqLine = s.irqLine := rfl
@[simp] theorem State.setX_nmiLine (s : State) (v : Byte) : (s.setX v).nmiLine = s.nmiLine := rfl
@[simp] theorem State.setX_nmiPending (s : State) (v : Byte) : (s.setX v).nmiPending = s.nmiPending := rfl
@[simp] theorem State.setX_cycles (s : State) (v : Byte) : (s.setX v).cycles = s.cycles := rfl
@[simp] theorem State.setX_outcome (s : State) (v : Byte) : (s.setX v).outcome = s.outcome := rfl
@[simp] theorem State.setX_mem (s : State) (v : Byte) : (s.setX v).mem = s.mem := rfl
@[simp] theorem State.setX_bus (s : State) (v : Byte) : (s.setX v).bus = s.bus := rfl
@[simp] theorem State.setX_devices (s : State) (v : Byte) : (s.setX v).devices = s.devices := rfl

@[simp] theorem State.setY_a (s : State) (v : Byte) : (s.setY v).a = s.a := rfl
@[simp] theorem State.setY_x (s : State) (v : Byte) : (s.setY v).x = s.x := rfl
@[simp] theorem State.setY_y (s : State) (v : Byte) : (s.setY v).y = v := rfl
@[simp] theorem State.setY_sp (s : State) (v : Byte) : (s.setY v).sp = s.sp := rfl
@[simp] theorem State.setY_pc (s : State) (v : Byte) : (s.setY v).pc = s.pc := rfl
@[simp] theorem State.setY_flags (s : State) (v : Byte) : (s.setY v).flags = s.flags := rfl
@[simp] theorem State.setY_halted (s : State) (v : Byte) : (s.setY v).halted = s.halted := rfl
@[simp] theorem State.setY_irqLine (s : State) (v : Byte) : (s.setY v).irqLine = s.irqLine := rfl
@[simp] theorem State.setY_nmiLine (s : State) (v : Byte) : (s.setY v).nmiLine = s.nmiLine := rfl
@[simp] theorem State.setY_nmiPending (s : State) (v : Byte) : (s.setY v).nmiPending = s.nmiPending := rfl
@[simp] theorem State.setY_cycles (s : State) (v : Byte) : (s.setY v).cycles = s.cycles := rfl
@[simp] theorem State.setY_outcome (s : State) (v : Byte) : (s.setY v).outcome = s.outcome := rfl
@[simp] theorem State.setY_mem (s : State) (v : Byte) : (s.setY v).mem = s.mem := rfl
@[simp] theorem State.setY_bus (s : State) (v : Byte) : (s.setY v).bus = s.bus := rfl
@[simp] theorem State.setY_devices (s : State) (v : Byte) : (s.setY v).devices = s.devices := rfl

@[simp] theorem State.setSp_a (s : State) (v : Byte) : (s.setSp v).a = s.a := rfl
@[simp] theorem State.setSp_x (s : State) (v : Byte) : (s.setSp v).x = s.x := rfl
@[simp] theorem State.setSp_y (s : State) (v : Byte) : (s.setSp v).y = s.y := rfl
@[simp] theorem State.setSp_sp (s : State) (v : Byte) : (s.setSp v).sp = v := rfl
@[simp] theorem State.setSp_pc (s : State) (v : Byte) : (s.setSp v).pc = s.pc := rfl
@[simp] theorem State.setSp_flags (s : State) (v : Byte) : (s.setSp v).flags = s.flags := rfl
@[simp] theorem State.setSp_halted (s : State) (v : Byte) : (s.setSp v).halted = s.halted := rfl
@[simp] theorem State.setSp_irqLine (s : State) (v : Byte) : (s.setSp v).irqLine = s.irqLine := rfl
@[simp] theorem State.setSp_nmiLine (s : State) (v : Byte) : (s.setSp v).nmiLine = s.nmiLine := rfl
@[simp] theorem State.setSp_nmiPending (s : State) (v : Byte) : (s.setSp v).nmiPending = s.nmiPending := rfl
@[simp] theorem State.setSp_cycles (s : State) (v : Byte) : (s.setSp v).cycles = s.cycles := rfl
@[simp] theorem State.setSp_outcome (s : State) (v : Byte) : (s.setSp v).outcome = s.outcome := rfl
@[simp] theorem State.setSp_mem (s : State) (v : Byte) : (s.setSp v).mem = s.mem := rfl
@[simp] theorem State.setSp_bus (s : State) (v : Byte) : (s.setSp v).bus = s.bus := rfl
@[simp] theorem State.setSp_devices (s : State) (v : Byte) : (s.setSp v).devices = s.devices := rfl

@[simp] theorem State.setPc_a (s : State) (v : Addr) : (s.setPc v).a = s.a := rfl
@[simp] theorem State.setPc_x (s : State) (v : Addr) : (s.setPc v).x = s.x := rfl
@[simp] theorem State.setPc_y (s : State) (v : Addr) : (s.setPc v).y = s.y := rfl
@[simp] theorem State.setPc_sp (s : State) (v : Addr) : (s.setPc v).sp = s.sp := rfl
@[simp] theorem State.setPc_pc (s : State) (v : Addr) : (s.setPc v).pc = v := rfl
@[simp] theorem State.setPc_flags (s : State) (v : Addr) : (s.setPc v).flags = s.flags := rfl
@[simp] theorem State.setPc_halted (s : State) (v : Addr) : (s.setPc v).halted = s.halted := rfl
@[simp] theorem State.setPc_irqLine (s : State) (v : Addr) : (s.setPc v).irqLine = s.irqLine := rfl
@[simp] theorem State.setPc_nmiLine (s : State) (v : Addr) : (s.setPc v).nmiLine = s.nmiLine := rfl
@[simp] theorem State.setPc_nmiPending (s : State) (v : Addr) : (s.setPc v).nmiPending = s.nmiPending := rfl
@[simp] theorem State.setPc_cycles (s : State) (v : Addr) : (s.setPc v).cycles = s.cycles := rfl
@[simp] theorem State.setPc_outcome (s : State) (v : Addr) : (s.setPc v).outcome = s.outcome := rfl
@[simp] theorem State.setPc_mem (s : State) (v : Addr) : (s.setPc v).mem = s.mem := rfl
@[simp] theorem State.setPc_bus (s : State) (v : Addr) : (s.setPc v).bus = s.bus := rfl
@[simp] theorem State.setPc_devices (s : State) (v : Addr) : (s.setPc v).devices = s.devices := rfl

@[simp] theorem State.setFlags_a (s : State) (f : Flags) : (s.setFlags f).a = s.a := rfl
@[simp] theorem State.setFlags_x (s : State) (f : Flags) : (s.setFlags f).x = s.x := rfl
@[simp] theorem State.setFlags_y (s : State) (f : Flags) : (s.setFlags f).y = s.y := rfl
@[simp] theorem State.setFlags_sp (s : State) (f : Flags) : (s.setFlags f).sp = s.sp := rfl
@[simp] theorem State.setFlags_pc (s : State) (f : Flags) : (s.setFlags f).pc = s.pc := rfl
@[simp] theorem State.setFlags_flags (s : State) (f : Flags) : (s.setFlags f).flags = f := rfl
@[simp] theorem State.setFlags_halted (s : State) (f : Flags) : (s.setFlags f).halted = s.halted := rfl
@[simp] theorem State.setFlags_irqLine (s : State) (f : Flags) : (s.setFlags f).irqLine = s.irqLine := rfl
@[simp] theorem State.setFlags_nmiLine (s : State) (f : Flags) : (s.setFlags f).nmiLine = s.nmiLine := rfl
@[simp] theorem State.setFlags_nmiPending (s : State) (f : Flags) : (s.setFlags f).nmiPending = s.nmiPending := rfl
@[simp] theorem State.setFlags_cycles (s : State) (f : Flags) : (s.setFlags f).cycles = s.cycles := rfl
@[simp] theorem State.setFlags_outcome (s : State) (f : Flags) : (s.setFlags f).outcome = s.outcome := rfl
@[simp] theorem State.setFlags_mem (s : State) (f : Flags) : (s.setFlags f).mem = s.mem := rfl
@[simp] theorem State.setFlags_bus (s : State) (f : Flags) : (s.setFlags f).bus = s.bus := rfl
@[simp] theorem State.setFlags_devices (s : State) (f : Flags) : (s.setFlags f).devices = s.devices := rfl

@[simp] theorem State.setNZ_a (s : State) (v : Byte) : (s.setNZ v).a = s.a := rfl
@[simp] theorem State.setNZ_x (s : State) (v : Byte) : (s.setNZ v).x = s.x := rfl
@[simp] theorem State.setNZ_y (s : State) (v : Byte) : (s.setNZ v).y = s.y := rfl
@[simp] theorem State.setNZ_sp (s : State) (v : Byte) : (s.setNZ v).sp = s.sp := rfl
@[simp] theorem State.setNZ_pc (s : State) (v : Byte) : (s.setNZ v).pc = s.pc := rfl
@[simp] theorem State.setNZ_flags (s : State) (v : Byte) : (s.setNZ v).flags = s.flags.setNZ v := rfl
@[simp] theorem State.setNZ_halted (s : State) (v : Byte) : (s.setNZ v).halted = s.halted := rfl
@[simp] theorem State.setNZ_irqLine (s : State) (v : Byte) : (s.setNZ v).irqLine = s.irqLine := rfl
@[simp] theorem State.setNZ_nmiLine (s : State) (v : Byte) : (s.setNZ v).nmiLine = s.nmiLine := rfl
@[simp] theorem State.setNZ_nmiPending (s : State) (v : Byte) : (s.setNZ v).nmiPending = s.nmiPending := rfl
@[simp] theorem State.setNZ_cycles (s : State) (v : Byte) : (s.setNZ v).cycles = s.cycles := rfl
@[simp] theorem State.setNZ_outcome (s : State) (v : Byte) : (s.setNZ v).outcome = s.outcome := rfl
@[simp] theorem State.setNZ_mem (s : State) (v : Byte) : (s.setNZ v).mem = s.mem := rfl
@[simp] theorem State.setNZ_bus (s : State) (v : Byte) : (s.setNZ v).bus = s.bus := rfl
@[simp] theorem State.setNZ_devices (s : State) (v : Byte) : (s.setNZ v).devices = s.devices := rfl

@[simp] theorem State.writeMem_a (s : State) (a : Addr) (v : Byte) : (s.writeMem a v).a = s.a := rfl
@[simp] theorem State.writeMem_x (s : State) (a : Addr) (v : Byte) : (s.writeMem a v).x = s.x := rfl
@[simp] theorem State.writeMem_y (s : State) (a : Addr) (v : Byte) : (s.writeMem a v).y = s.y := rfl
@[simp] theorem State.writeMem_sp (s : State) (a : Addr) (v : Byte) : (s.writeMem a v).sp = s.sp := rfl
@[simp] theorem State.writeMem_pc (s : State) (a : Addr) (v : Byte) : (s.writeMem a v).pc = s.pc := rfl
@[simp] theorem State.writeMem_flags (s : State) (a : Addr) (v : Byte) : (s.writeMem a v).flags = s.flags := rfl
@[simp] theorem State.writeMem_halted (s : State) (a : Addr) (v : Byte) : (s.writeMem a v).halted = s.halted := rfl
@[simp] theorem State.writeMem_irqLine (s : State) (a : Addr) (v : Byte) : (s.writeMem a v).irqLine = s.irqLine := rfl
@[simp] theorem State.writeMem_nmiLine (s : State) (a : Addr) (v : Byte) : (s.writeMem a v).nmiLine = s.nmiLine := rfl
@[simp] theorem State.writeMem_nmiPending (s : State) (a : Addr) (v : Byte) : (s.writeMem a v).nmiPending = s.nmiPending := rfl
@[simp] theorem State.writeMem_cycles (s : State) (a : Addr) (v : Byte) : (s.writeMem a v).cycles = s.cycles := rfl
@[simp] theorem State.writeMem_outcome (s : State) (a : Addr) (v : Byte) : (s.writeMem a v).outcome = s.outcome := rfl
@[simp] theorem State.writeMem_mem (s : State) (a : Addr) (v : Byte) : (s.writeMem a v).mem = s.cellsAfter a v := rfl
@[simp] theorem State.writeMem_bus (s : State) (a : Addr) (v : Byte) : (s.writeMem a v).bus = s.bus := rfl
@[simp] theorem State.writeMem_devices (s : State) (a : Addr) (v : Byte) : (s.writeMem a v).devices = s.devicesAfter a v := rfl

@[simp] theorem State.push_a (s : State) (v : Byte) : (s.push v).a = s.a := rfl
@[simp] theorem State.push_x (s : State) (v : Byte) : (s.push v).x = s.x := rfl
@[simp] theorem State.push_y (s : State) (v : Byte) : (s.push v).y = s.y := rfl
@[simp] theorem State.push_sp (s : State) (v : Byte) : (s.push v).sp = s.sp - 1 := rfl
@[simp] theorem State.push_pc (s : State) (v : Byte) : (s.push v).pc = s.pc := rfl
@[simp] theorem State.push_flags (s : State) (v : Byte) : (s.push v).flags = s.flags := rfl
@[simp] theorem State.push_halted (s : State) (v : Byte) : (s.push v).halted = s.halted := rfl
@[simp] theorem State.push_irqLine (s : State) (v : Byte) : (s.push v).irqLine = s.irqLine := rfl
@[simp] theorem State.push_nmiLine (s : State) (v : Byte) : (s.push v).nmiLine = s.nmiLine := rfl
@[simp] theorem State.push_nmiPending (s : State) (v : Byte) : (s.push v).nmiPending = s.nmiPending := rfl
@[simp] theorem State.push_cycles (s : State) (v : Byte) : (s.push v).cycles = s.cycles := rfl
@[simp] theorem State.push_outcome (s : State) (v : Byte) : (s.push v).outcome = s.outcome := rfl
@[simp] theorem State.push_mem (s : State) (v : Byte) : (s.push v).mem = s.cellsAfter (stackAddr s.sp) v := rfl
@[simp] theorem State.push_bus (s : State) (v : Byte) : (s.push v).bus = s.bus := rfl
@[simp] theorem State.push_devices (s : State) (v : Byte) : (s.push v).devices = s.devicesAfter (stackAddr s.sp) v := rfl

@[simp] theorem State.pulled_a (s : State) : (s.pulled).a = s.a := rfl
@[simp] theorem State.pulled_x (s : State) : (s.pulled).x = s.x := rfl
@[simp] theorem State.pulled_y (s : State) : (s.pulled).y = s.y := rfl
@[simp] theorem State.pulled_sp (s : State) : (s.pulled).sp = s.sp + 1 := rfl
@[simp] theorem State.pulled_pc (s : State) : (s.pulled).pc = s.pc := rfl
@[simp] theorem State.pulled_flags (s : State) : (s.pulled).flags = s.flags := rfl
@[simp] theorem State.pulled_halted (s : State) : (s.pulled).halted = s.halted := rfl
@[simp] theorem State.pulled_irqLine (s : State) : (s.pulled).irqLine = s.irqLine := rfl
@[simp] theorem State.pulled_nmiLine (s : State) : (s.pulled).nmiLine = s.nmiLine := rfl
@[simp] theorem State.pulled_nmiPending (s : State) : (s.pulled).nmiPending = s.nmiPending := rfl
@[simp] theorem State.pulled_cycles (s : State) : (s.pulled).cycles = s.cycles := rfl
@[simp] theorem State.pulled_outcome (s : State) : (s.pulled).outcome = s.outcome := rfl
@[simp] theorem State.pulled_mem (s : State) : (s.pulled).mem = s.mem := rfl
@[simp] theorem State.pulled_bus (s : State) : (s.pulled).bus = s.bus := rfl
@[simp] theorem State.pulled_devices (s : State) : (s.pulled).devices = s.devices := rfl

@[simp] theorem State.retire_a (s : State) (n c : Nat) : (s.retire n c).a = s.a := rfl
@[simp] theorem State.retire_x (s : State) (n c : Nat) : (s.retire n c).x = s.x := rfl
@[simp] theorem State.retire_y (s : State) (n c : Nat) : (s.retire n c).y = s.y := rfl
@[simp] theorem State.retire_sp (s : State) (n c : Nat) : (s.retire n c).sp = s.sp := rfl
@[simp] theorem State.retire_pc (s : State) (n c : Nat) : (s.retire n c).pc = s.pc + BitVec.ofNat 16 n := rfl
@[simp] theorem State.retire_flags (s : State) (n c : Nat) : (s.retire n c).flags = s.flags := rfl
@[simp] theorem State.retire_halted (s : State) (n c : Nat) : (s.retire n c).halted = s.halted := rfl
@[simp] theorem State.retire_irqLine (s : State) (n c : Nat) : (s.retire n c).irqLine = s.irqLine := rfl
@[simp] theorem State.retire_nmiLine (s : State) (n c : Nat) : (s.retire n c).nmiLine = s.nmiLine := rfl
@[simp] theorem State.retire_nmiPending (s : State) (n c : Nat) : (s.retire n c).nmiPending = s.nmiPending := rfl
@[simp] theorem State.retire_cycles (s : State) (n c : Nat) : (s.retire n c).cycles = BitVec.ofNat 32 c := rfl
@[simp] theorem State.retire_outcome (s : State) (n c : Nat) : (s.retire n c).outcome = .executed := rfl
@[simp] theorem State.retire_mem (s : State) (n c : Nat) : (s.retire n c).mem = s.mem := rfl
@[simp] theorem State.retire_bus (s : State) (n c : Nat) : (s.retire n c).bus = s.bus := rfl
@[simp] theorem State.retire_devices (s : State) (n c : Nat) : (s.retire n c).devices = s.devices := rfl

@[simp] theorem State.retireAt_a (s : State) (w : Addr) (c : Nat) : (s.retireAt w c).a = s.a := rfl
@[simp] theorem State.retireAt_x (s : State) (w : Addr) (c : Nat) : (s.retireAt w c).x = s.x := rfl
@[simp] theorem State.retireAt_y (s : State) (w : Addr) (c : Nat) : (s.retireAt w c).y = s.y := rfl
@[simp] theorem State.retireAt_sp (s : State) (w : Addr) (c : Nat) : (s.retireAt w c).sp = s.sp := rfl
@[simp] theorem State.retireAt_pc (s : State) (w : Addr) (c : Nat) : (s.retireAt w c).pc = w := rfl
@[simp] theorem State.retireAt_flags (s : State) (w : Addr) (c : Nat) : (s.retireAt w c).flags = s.flags := rfl
@[simp] theorem State.retireAt_halted (s : State) (w : Addr) (c : Nat) : (s.retireAt w c).halted = s.halted := rfl
@[simp] theorem State.retireAt_irqLine (s : State) (w : Addr) (c : Nat) : (s.retireAt w c).irqLine = s.irqLine := rfl
@[simp] theorem State.retireAt_nmiLine (s : State) (w : Addr) (c : Nat) : (s.retireAt w c).nmiLine = s.nmiLine := rfl
@[simp] theorem State.retireAt_nmiPending (s : State) (w : Addr) (c : Nat) : (s.retireAt w c).nmiPending = s.nmiPending := rfl
@[simp] theorem State.retireAt_cycles (s : State) (w : Addr) (c : Nat) : (s.retireAt w c).cycles = BitVec.ofNat 32 c := rfl
@[simp] theorem State.retireAt_outcome (s : State) (w : Addr) (c : Nat) : (s.retireAt w c).outcome = .executed := rfl
@[simp] theorem State.retireAt_mem (s : State) (w : Addr) (c : Nat) : (s.retireAt w c).mem = s.mem := rfl
@[simp] theorem State.retireAt_bus (s : State) (w : Addr) (c : Nat) : (s.retireAt w c).bus = s.bus := rfl
@[simp] theorem State.retireAt_devices (s : State) (w : Addr) (c : Nat) : (s.retireAt w c).devices = s.devices := rfl

@[simp] theorem State.resetSequence_a (s : State) : (s.resetSequence).a = s.a := rfl
@[simp] theorem State.resetSequence_x (s : State) : (s.resetSequence).x = s.x := rfl
@[simp] theorem State.resetSequence_y (s : State) : (s.resetSequence).y = s.y := rfl
@[simp] theorem State.resetSequence_sp (s : State) : (s.resetSequence).sp = s.sp - Config.resetSpDelta := rfl
@[simp] theorem State.resetSequence_pc (s : State) : (s.resetSequence).pc = s.readVector Config.vecReset := rfl
@[simp] theorem State.resetSequence_flags (s : State) : (s.resetSequence).flags = { s.flags with i := true } := rfl
@[simp] theorem State.resetSequence_halted (s : State) : (s.resetSequence).halted = false := rfl
@[simp] theorem State.resetSequence_irqLine (s : State) : (s.resetSequence).irqLine = s.irqLine := rfl
@[simp] theorem State.resetSequence_nmiLine (s : State) : (s.resetSequence).nmiLine = s.nmiLine := rfl
@[simp] theorem State.resetSequence_nmiPending (s : State) : (s.resetSequence).nmiPending = false := rfl
@[simp] theorem State.resetSequence_cycles (s : State) : (s.resetSequence).cycles = 7 := rfl
@[simp] theorem State.resetSequence_outcome (s : State) : (s.resetSequence).outcome = .reset := rfl
@[simp] theorem State.resetSequence_mem (s : State) : (s.resetSequence).mem = s.mem := rfl
@[simp] theorem State.resetSequence_bus (s : State) : (s.resetSequence).bus = s.bus := rfl
@[simp] theorem State.resetSequence_devices (s : State) : (s.resetSequence).devices = s.devices := rfl

@[simp] theorem Flags.setNZ_n (f : Flags) (v : Byte) : (f.setNZ v).n = v.msb := rfl
@[simp] theorem Flags.setNZ_v (f : Flags) (v : Byte) : (f.setNZ v).v = f.v := rfl
@[simp] theorem Flags.setNZ_b (f : Flags) (v : Byte) : (f.setNZ v).b = f.b := rfl
@[simp] theorem Flags.setNZ_d (f : Flags) (v : Byte) : (f.setNZ v).d = f.d := rfl
@[simp] theorem Flags.setNZ_i (f : Flags) (v : Byte) : (f.setNZ v).i = f.i := rfl
@[simp] theorem Flags.setNZ_z (f : Flags) (v : Byte) : (f.setNZ v).z = (v == 0) := rfl
@[simp] theorem Flags.setNZ_c (f : Flags) (v : Byte) : (f.setNZ v).c = f.c := rfl

@[simp] theorem Flags.setArith_n (f : Flags) (r : AddResult) : (f.setArith r).n = r.sum.msb := rfl
@[simp] theorem Flags.setArith_v (f : Flags) (r : AddResult) : (f.setArith r).v = r.overflow := rfl
@[simp] theorem Flags.setArith_b (f : Flags) (r : AddResult) : (f.setArith r).b = f.b := rfl
@[simp] theorem Flags.setArith_d (f : Flags) (r : AddResult) : (f.setArith r).d = f.d := rfl
@[simp] theorem Flags.setArith_i (f : Flags) (r : AddResult) : (f.setArith r).i = f.i := rfl
@[simp] theorem Flags.setArith_z (f : Flags) (r : AddResult) : (f.setArith r).z = (r.sum == 0) := rfl
@[simp] theorem Flags.setArith_c (f : Flags) (r : AddResult) : (f.setArith r).c = r.carry := rfl

@[simp] theorem Flags.compare_n (f : Flags) (r m : Byte) : (f.compare r m).n = (r - m).msb := rfl
@[simp] theorem Flags.compare_v (f : Flags) (r m : Byte) : (f.compare r m).v = f.v := rfl
@[simp] theorem Flags.compare_b (f : Flags) (r m : Byte) : (f.compare r m).b = f.b := rfl
@[simp] theorem Flags.compare_d (f : Flags) (r m : Byte) : (f.compare r m).d = f.d := rfl
@[simp] theorem Flags.compare_i (f : Flags) (r m : Byte) : (f.compare r m).i = f.i := rfl
@[simp] theorem Flags.compare_z (f : Flags) (r m : Byte) : (f.compare r m).z = (r - m == 0) := rfl
@[simp] theorem Flags.compare_c (f : Flags) (r m : Byte) : (f.compare r m).c = decide (m.toNat ≤ r.toNat) := rfl

@[simp] theorem Flags.setShift_n (f : Flags) (o : Bool) (r : Byte) : (f.setShift o r).n = r.msb := rfl
@[simp] theorem Flags.setShift_v (f : Flags) (o : Bool) (r : Byte) : (f.setShift o r).v = f.v := rfl
@[simp] theorem Flags.setShift_b (f : Flags) (o : Bool) (r : Byte) : (f.setShift o r).b = f.b := rfl
@[simp] theorem Flags.setShift_d (f : Flags) (o : Bool) (r : Byte) : (f.setShift o r).d = f.d := rfl
@[simp] theorem Flags.setShift_i (f : Flags) (o : Bool) (r : Byte) : (f.setShift o r).i = f.i := rfl
@[simp] theorem Flags.setShift_z (f : Flags) (o : Bool) (r : Byte) : (f.setShift o r).z = (r == 0) := rfl
@[simp] theorem Flags.setShift_c (f : Flags) (o : Bool) (r : Byte) : (f.setShift o r).c = o := rfl

@[simp] theorem Flags.pulled_n (f : Flags) (p : Byte) : (f.pulled p).n = p.getLsbD 7 := rfl
@[simp] theorem Flags.pulled_v (f : Flags) (p : Byte) : (f.pulled p).v = p.getLsbD 6 := rfl
@[simp] theorem Flags.pulled_b (f : Flags) (p : Byte) : (f.pulled p).b = f.b := rfl
@[simp] theorem Flags.pulled_d (f : Flags) (p : Byte) : (f.pulled p).d = p.getLsbD 3 := rfl
@[simp] theorem Flags.pulled_i (f : Flags) (p : Byte) : (f.pulled p).i = p.getLsbD 2 := rfl
@[simp] theorem Flags.pulled_z (f : Flags) (p : Byte) : (f.pulled p).z = p.getLsbD 1 := rfl
@[simp] theorem Flags.pulled_c (f : Flags) (p : Byte) : (f.pulled p).c = p.getLsbD 0 := rfl

/-- Two states with one host read the same. -/
theorem State.readMem_of_host {s t : State} (mem : t.mem = s.mem) (bus : t.bus = s.bus) (devices : t.devices = s.devices) (a : Addr) :
    t.readMem a = s.readMem a := by
  simp only [State.readMem, mem, bus, devices]

/-- The state after reset is the power-on with every drawn value 0, over plain memory that lists nothing. -/
theorem reset_eq_powerOn :
    State.reset = powerOn ⟨0, 0, 0, 0, 0, ⟨false, false, false, false, false, false, false⟩⟩ [] 0 [] := by
  decide

end Sys2Proof.Machine
end

