-- ==== Sys2Proof/Laws/Effects.lean ====
section
/-! SUPPORT. Every field of the state after each effect that the read and the read-modify-write rules run, one lemma for each effect, so
that no proof unfolds an effect. None of them touches the bus, `PC`, the hidden state or what the step reports. -/

namespace Sys2Proof.Machine

@[simp] theorem loadA_fields (m : Byte) (s : State) :
    (loadA m s).a = m ∧ (loadA m s).x = s.x ∧ (loadA m s).y = s.y ∧ (loadA m s).sp = s.sp ∧ (loadA m s).pc = s.pc ∧
    (loadA m s).flags = s.flags.setNZ m ∧ (loadA m s).halted = s.halted ∧ (loadA m s).irqLine = s.irqLine ∧
    (loadA m s).nmiLine = s.nmiLine ∧ (loadA m s).nmiPending = s.nmiPending ∧ (loadA m s).cycles = s.cycles ∧
    (loadA m s).outcome = s.outcome ∧ (loadA m s).mem = s.mem ∧ (loadA m s).bus = s.bus ∧
    (loadA m s).devices = s.devices := by
  exact ⟨rfl, rfl, rfl, rfl, rfl, rfl, rfl, rfl, rfl, rfl, rfl, rfl, rfl, rfl, rfl⟩

@[simp] theorem loadX_fields (m : Byte) (s : State) :
    (loadX m s).a = s.a ∧ (loadX m s).x = m ∧ (loadX m s).y = s.y ∧ (loadX m s).sp = s.sp ∧ (loadX m s).pc = s.pc ∧
    (loadX m s).flags = s.flags.setNZ m ∧ (loadX m s).halted = s.halted ∧ (loadX m s).irqLine = s.irqLine ∧
    (loadX m s).nmiLine = s.nmiLine ∧ (loadX m s).nmiPending = s.nmiPending ∧ (loadX m s).cycles = s.cycles ∧
    (loadX m s).outcome = s.outcome ∧ (loadX m s).mem = s.mem ∧ (loadX m s).bus = s.bus ∧
    (loadX m s).devices = s.devices := by
  exact ⟨rfl, rfl, rfl, rfl, rfl, rfl, rfl, rfl, rfl, rfl, rfl, rfl, rfl, rfl, rfl⟩

@[simp] theorem loadY_fields (m : Byte) (s : State) :
    (loadY m s).a = s.a ∧ (loadY m s).x = s.x ∧ (loadY m s).y = m ∧ (loadY m s).sp = s.sp ∧ (loadY m s).pc = s.pc ∧
    (loadY m s).flags = s.flags.setNZ m ∧ (loadY m s).halted = s.halted ∧ (loadY m s).irqLine = s.irqLine ∧
    (loadY m s).nmiLine = s.nmiLine ∧ (loadY m s).nmiPending = s.nmiPending ∧ (loadY m s).cycles = s.cycles ∧
    (loadY m s).outcome = s.outcome ∧ (loadY m s).mem = s.mem ∧ (loadY m s).bus = s.bus ∧
    (loadY m s).devices = s.devices := by
  exact ⟨rfl, rfl, rfl, rfl, rfl, rfl, rfl, rfl, rfl, rfl, rfl, rfl, rfl, rfl, rfl⟩

@[simp] theorem adcEffect_fields (m : Byte) (s : State) :
    (adcEffect m s).a = (addWithCarry s.a m s.flags.c).sum ∧ (adcEffect m s).x = s.x ∧ (adcEffect m s).y = s.y ∧
    (adcEffect m s).sp = s.sp ∧ (adcEffect m s).pc = s.pc ∧
    (adcEffect m s).flags = s.flags.setArith (addWithCarry s.a m s.flags.c) ∧ (adcEffect m s).halted = s.halted ∧
    (adcEffect m s).irqLine = s.irqLine ∧ (adcEffect m s).nmiLine = s.nmiLine ∧
    (adcEffect m s).nmiPending = s.nmiPending ∧ (adcEffect m s).cycles = s.cycles ∧
    (adcEffect m s).outcome = s.outcome ∧ (adcEffect m s).mem = s.mem ∧ (adcEffect m s).bus = s.bus ∧
    (adcEffect m s).devices = s.devices := by
  exact ⟨rfl, rfl, rfl, rfl, rfl, rfl, rfl, rfl, rfl, rfl, rfl, rfl, rfl, rfl, rfl⟩

@[simp] theorem sbcEffect_fields (m : Byte) (s : State) :
    (sbcEffect m s).a = (subWithBorrow s.a m s.flags.c).sum ∧ (sbcEffect m s).x = s.x ∧ (sbcEffect m s).y = s.y ∧
    (sbcEffect m s).sp = s.sp ∧ (sbcEffect m s).pc = s.pc ∧
    (sbcEffect m s).flags = s.flags.setArith (subWithBorrow s.a m s.flags.c) ∧ (sbcEffect m s).halted = s.halted ∧
    (sbcEffect m s).irqLine = s.irqLine ∧ (sbcEffect m s).nmiLine = s.nmiLine ∧
    (sbcEffect m s).nmiPending = s.nmiPending ∧ (sbcEffect m s).cycles = s.cycles ∧
    (sbcEffect m s).outcome = s.outcome ∧ (sbcEffect m s).mem = s.mem ∧ (sbcEffect m s).bus = s.bus ∧
    (sbcEffect m s).devices = s.devices := by
  exact ⟨rfl, rfl, rfl, rfl, rfl, rfl, rfl, rfl, rfl, rfl, rfl, rfl, rfl, rfl, rfl⟩

@[simp] theorem andEffect_fields (m : Byte) (s : State) :
    (andEffect m s).a = s.a &&& m ∧ (andEffect m s).x = s.x ∧ (andEffect m s).y = s.y ∧ (andEffect m s).sp = s.sp ∧
    (andEffect m s).pc = s.pc ∧ (andEffect m s).flags = s.flags.setNZ (s.a &&& m) ∧ (andEffect m s).halted = s.halted ∧
    (andEffect m s).irqLine = s.irqLine ∧ (andEffect m s).nmiLine = s.nmiLine ∧
    (andEffect m s).nmiPending = s.nmiPending ∧ (andEffect m s).cycles = s.cycles ∧
    (andEffect m s).outcome = s.outcome ∧ (andEffect m s).mem = s.mem ∧ (andEffect m s).bus = s.bus ∧
    (andEffect m s).devices = s.devices := by
  exact ⟨rfl, rfl, rfl, rfl, rfl, rfl, rfl, rfl, rfl, rfl, rfl, rfl, rfl, rfl, rfl⟩

@[simp] theorem oraEffect_fields (m : Byte) (s : State) :
    (oraEffect m s).a = s.a ||| m ∧ (oraEffect m s).x = s.x ∧ (oraEffect m s).y = s.y ∧ (oraEffect m s).sp = s.sp ∧
    (oraEffect m s).pc = s.pc ∧ (oraEffect m s).flags = s.flags.setNZ (s.a ||| m) ∧ (oraEffect m s).halted = s.halted ∧
    (oraEffect m s).irqLine = s.irqLine ∧ (oraEffect m s).nmiLine = s.nmiLine ∧
    (oraEffect m s).nmiPending = s.nmiPending ∧ (oraEffect m s).cycles = s.cycles ∧
    (oraEffect m s).outcome = s.outcome ∧ (oraEffect m s).mem = s.mem ∧ (oraEffect m s).bus = s.bus ∧
    (oraEffect m s).devices = s.devices := by
  exact ⟨rfl, rfl, rfl, rfl, rfl, rfl, rfl, rfl, rfl, rfl, rfl, rfl, rfl, rfl, rfl⟩

@[simp] theorem eorEffect_fields (m : Byte) (s : State) :
    (eorEffect m s).a = s.a ^^^ m ∧ (eorEffect m s).x = s.x ∧ (eorEffect m s).y = s.y ∧ (eorEffect m s).sp = s.sp ∧
    (eorEffect m s).pc = s.pc ∧ (eorEffect m s).flags = s.flags.setNZ (s.a ^^^ m) ∧ (eorEffect m s).halted = s.halted ∧
    (eorEffect m s).irqLine = s.irqLine ∧ (eorEffect m s).nmiLine = s.nmiLine ∧
    (eorEffect m s).nmiPending = s.nmiPending ∧ (eorEffect m s).cycles = s.cycles ∧
    (eorEffect m s).outcome = s.outcome ∧ (eorEffect m s).mem = s.mem ∧ (eorEffect m s).bus = s.bus ∧
    (eorEffect m s).devices = s.devices := by
  exact ⟨rfl, rfl, rfl, rfl, rfl, rfl, rfl, rfl, rfl, rfl, rfl, rfl, rfl, rfl, rfl⟩

@[simp] theorem cmpEffect_fields (m : Byte) (s : State) :
    (cmpEffect m s).a = s.a ∧ (cmpEffect m s).x = s.x ∧ (cmpEffect m s).y = s.y ∧ (cmpEffect m s).sp = s.sp ∧
    (cmpEffect m s).pc = s.pc ∧ (cmpEffect m s).flags = s.flags.compare s.a m ∧ (cmpEffect m s).halted = s.halted ∧
    (cmpEffect m s).irqLine = s.irqLine ∧ (cmpEffect m s).nmiLine = s.nmiLine ∧
    (cmpEffect m s).nmiPending = s.nmiPending ∧ (cmpEffect m s).cycles = s.cycles ∧
    (cmpEffect m s).outcome = s.outcome ∧ (cmpEffect m s).mem = s.mem ∧ (cmpEffect m s).bus = s.bus ∧
    (cmpEffect m s).devices = s.devices := by
  exact ⟨rfl, rfl, rfl, rfl, rfl, rfl, rfl, rfl, rfl, rfl, rfl, rfl, rfl, rfl, rfl⟩

@[simp] theorem cpxEffect_fields (m : Byte) (s : State) :
    (cpxEffect m s).a = s.a ∧ (cpxEffect m s).x = s.x ∧ (cpxEffect m s).y = s.y ∧ (cpxEffect m s).sp = s.sp ∧
    (cpxEffect m s).pc = s.pc ∧ (cpxEffect m s).flags = s.flags.compare s.x m ∧ (cpxEffect m s).halted = s.halted ∧
    (cpxEffect m s).irqLine = s.irqLine ∧ (cpxEffect m s).nmiLine = s.nmiLine ∧
    (cpxEffect m s).nmiPending = s.nmiPending ∧ (cpxEffect m s).cycles = s.cycles ∧
    (cpxEffect m s).outcome = s.outcome ∧ (cpxEffect m s).mem = s.mem ∧ (cpxEffect m s).bus = s.bus ∧
    (cpxEffect m s).devices = s.devices := by
  exact ⟨rfl, rfl, rfl, rfl, rfl, rfl, rfl, rfl, rfl, rfl, rfl, rfl, rfl, rfl, rfl⟩

@[simp] theorem cpyEffect_fields (m : Byte) (s : State) :
    (cpyEffect m s).a = s.a ∧ (cpyEffect m s).x = s.x ∧ (cpyEffect m s).y = s.y ∧ (cpyEffect m s).sp = s.sp ∧
    (cpyEffect m s).pc = s.pc ∧ (cpyEffect m s).flags = s.flags.compare s.y m ∧ (cpyEffect m s).halted = s.halted ∧
    (cpyEffect m s).irqLine = s.irqLine ∧ (cpyEffect m s).nmiLine = s.nmiLine ∧
    (cpyEffect m s).nmiPending = s.nmiPending ∧ (cpyEffect m s).cycles = s.cycles ∧
    (cpyEffect m s).outcome = s.outcome ∧ (cpyEffect m s).mem = s.mem ∧ (cpyEffect m s).bus = s.bus ∧
    (cpyEffect m s).devices = s.devices := by
  exact ⟨rfl, rfl, rfl, rfl, rfl, rfl, rfl, rfl, rfl, rfl, rfl, rfl, rfl, rfl, rfl⟩

@[simp] theorem bitEffect_fields (m : Byte) (s : State) :
    (bitEffect m s).a = s.a ∧ (bitEffect m s).x = s.x ∧ (bitEffect m s).y = s.y ∧ (bitEffect m s).sp = s.sp ∧
    (bitEffect m s).pc = s.pc ∧
    (bitEffect m s).flags = { s.flags with z := s.a &&& m == 0, n := m.getLsbD 7, v := m.getLsbD 6 } ∧
    (bitEffect m s).halted = s.halted ∧ (bitEffect m s).irqLine = s.irqLine ∧ (bitEffect m s).nmiLine = s.nmiLine ∧
    (bitEffect m s).nmiPending = s.nmiPending ∧ (bitEffect m s).cycles = s.cycles ∧
    (bitEffect m s).outcome = s.outcome ∧ (bitEffect m s).mem = s.mem ∧ (bitEffect m s).bus = s.bus ∧
    (bitEffect m s).devices = s.devices := by
  exact ⟨rfl, rfl, rfl, rfl, rfl, rfl, rfl, rfl, rfl, rfl, rfl, rfl, rfl, rfl, rfl⟩

@[simp] theorem nopEffect_fields (m : Byte) (s : State) :
    (nopEffect m s).a = s.a ∧ (nopEffect m s).x = s.x ∧ (nopEffect m s).y = s.y ∧ (nopEffect m s).sp = s.sp ∧
    (nopEffect m s).pc = s.pc ∧ (nopEffect m s).flags = s.flags ∧ (nopEffect m s).halted = s.halted ∧
    (nopEffect m s).irqLine = s.irqLine ∧ (nopEffect m s).nmiLine = s.nmiLine ∧
    (nopEffect m s).nmiPending = s.nmiPending ∧ (nopEffect m s).cycles = s.cycles ∧
    (nopEffect m s).outcome = s.outcome ∧ (nopEffect m s).mem = s.mem ∧ (nopEffect m s).bus = s.bus ∧
    (nopEffect m s).devices = s.devices := by
  exact ⟨rfl, rfl, rfl, rfl, rfl, rfl, rfl, rfl, rfl, rfl, rfl, rfl, rfl, rfl, rfl⟩

@[simp] theorem laxEffect_fields (m : Byte) (s : State) :
    (laxEffect m s).a = m ∧ (laxEffect m s).x = m ∧ (laxEffect m s).y = s.y ∧ (laxEffect m s).sp = s.sp ∧
    (laxEffect m s).pc = s.pc ∧ (laxEffect m s).flags = s.flags.setNZ m ∧ (laxEffect m s).halted = s.halted ∧
    (laxEffect m s).irqLine = s.irqLine ∧ (laxEffect m s).nmiLine = s.nmiLine ∧
    (laxEffect m s).nmiPending = s.nmiPending ∧ (laxEffect m s).cycles = s.cycles ∧
    (laxEffect m s).outcome = s.outcome ∧ (laxEffect m s).mem = s.mem ∧ (laxEffect m s).bus = s.bus ∧
    (laxEffect m s).devices = s.devices := by
  exact ⟨rfl, rfl, rfl, rfl, rfl, rfl, rfl, rfl, rfl, rfl, rfl, rfl, rfl, rfl, rfl⟩

@[simp] theorem ancEffect_fields (m : Byte) (s : State) :
    (ancEffect m s).a = s.a &&& m ∧ (ancEffect m s).x = s.x ∧ (ancEffect m s).y = s.y ∧ (ancEffect m s).sp = s.sp ∧
    (ancEffect m s).pc = s.pc ∧ (ancEffect m s).flags = s.flags.setShift (outLeft (s.a &&& m)) (s.a &&& m) ∧
    (ancEffect m s).halted = s.halted ∧ (ancEffect m s).irqLine = s.irqLine ∧ (ancEffect m s).nmiLine = s.nmiLine ∧
    (ancEffect m s).nmiPending = s.nmiPending ∧ (ancEffect m s).cycles = s.cycles ∧
    (ancEffect m s).outcome = s.outcome ∧ (ancEffect m s).mem = s.mem ∧ (ancEffect m s).bus = s.bus ∧
    (ancEffect m s).devices = s.devices := by
  exact ⟨rfl, rfl, rfl, rfl, rfl, rfl, rfl, rfl, rfl, rfl, rfl, rfl, rfl, rfl, rfl⟩

@[simp] theorem alrEffect_fields (m : Byte) (s : State) :
    (alrEffect m s).a = lsrByte (s.a &&& m) ∧ (alrEffect m s).x = s.x ∧ (alrEffect m s).y = s.y ∧
    (alrEffect m s).sp = s.sp ∧ (alrEffect m s).pc = s.pc ∧
    (alrEffect m s).flags = s.flags.setShift (outRight (s.a &&& m)) (lsrByte (s.a &&& m)) ∧
    (alrEffect m s).halted = s.halted ∧ (alrEffect m s).irqLine = s.irqLine ∧ (alrEffect m s).nmiLine = s.nmiLine ∧
    (alrEffect m s).nmiPending = s.nmiPending ∧ (alrEffect m s).cycles = s.cycles ∧
    (alrEffect m s).outcome = s.outcome ∧ (alrEffect m s).mem = s.mem ∧ (alrEffect m s).bus = s.bus ∧
    (alrEffect m s).devices = s.devices := by
  exact ⟨rfl, rfl, rfl, rfl, rfl, rfl, rfl, rfl, rfl, rfl, rfl, rfl, rfl, rfl, rfl⟩

@[simp] theorem arrEffect_fields (m : Byte) (s : State) :
    (arrEffect m s).a = rorByte (s.a &&& m) s.flags.c ∧ (arrEffect m s).x = s.x ∧ (arrEffect m s).y = s.y ∧
    (arrEffect m s).sp = s.sp ∧ (arrEffect m s).pc = s.pc ∧
    (arrEffect m s).flags = { s.flags.setNZ (rorByte (s.a &&& m) s.flags.c) with
      c := (rorByte (s.a &&& m) s.flags.c).getLsbD 6
      v := Bool.xor ((rorByte (s.a &&& m) s.flags.c).getLsbD 6) ((rorByte (s.a &&& m) s.flags.c).getLsbD 5) } ∧
    (arrEffect m s).halted = s.halted ∧ (arrEffect m s).irqLine = s.irqLine ∧ (arrEffect m s).nmiLine = s.nmiLine ∧
    (arrEffect m s).nmiPending = s.nmiPending ∧ (arrEffect m s).cycles = s.cycles ∧
    (arrEffect m s).outcome = s.outcome ∧ (arrEffect m s).mem = s.mem ∧ (arrEffect m s).bus = s.bus ∧
    (arrEffect m s).devices = s.devices := by
  exact ⟨rfl, rfl, rfl, rfl, rfl, rfl, rfl, rfl, rfl, rfl, rfl, rfl, rfl, rfl, rfl⟩

@[simp] theorem sbxEffect_fields (m : Byte) (s : State) :
    (sbxEffect m s).a = s.a ∧ (sbxEffect m s).x = (s.a &&& s.x) - m ∧ (sbxEffect m s).y = s.y ∧
    (sbxEffect m s).sp = s.sp ∧ (sbxEffect m s).pc = s.pc ∧ (sbxEffect m s).flags = s.flags.compare (s.a &&& s.x) m ∧
    (sbxEffect m s).halted = s.halted ∧ (sbxEffect m s).irqLine = s.irqLine ∧ (sbxEffect m s).nmiLine = s.nmiLine ∧
    (sbxEffect m s).nmiPending = s.nmiPending ∧ (sbxEffect m s).cycles = s.cycles ∧
    (sbxEffect m s).outcome = s.outcome ∧ (sbxEffect m s).mem = s.mem ∧ (sbxEffect m s).bus = s.bus ∧
    (sbxEffect m s).devices = s.devices := by
  exact ⟨rfl, rfl, rfl, rfl, rfl, rfl, rfl, rfl, rfl, rfl, rfl, rfl, rfl, rfl, rfl⟩

@[simp] theorem lasEffect_fields (m : Byte) (s : State) :
    (lasEffect m s).a = m &&& s.sp ∧ (lasEffect m s).x = m &&& s.sp ∧ (lasEffect m s).y = s.y ∧
    (lasEffect m s).sp = m &&& s.sp ∧ (lasEffect m s).pc = s.pc ∧ (lasEffect m s).flags = s.flags.setNZ (m &&& s.sp) ∧
    (lasEffect m s).halted = s.halted ∧ (lasEffect m s).irqLine = s.irqLine ∧ (lasEffect m s).nmiLine = s.nmiLine ∧
    (lasEffect m s).nmiPending = s.nmiPending ∧ (lasEffect m s).cycles = s.cycles ∧
    (lasEffect m s).outcome = s.outcome ∧ (lasEffect m s).mem = s.mem ∧ (lasEffect m s).bus = s.bus ∧
    (lasEffect m s).devices = s.devices := by
  exact ⟨rfl, rfl, rfl, rfl, rfl, rfl, rfl, rfl, rfl, rfl, rfl, rfl, rfl, rfl, rfl⟩

@[simp] theorem aneEffect_fields (m : Byte) (s : State) :
    (aneEffect m s).a = aneValue Config.aneMagic m s ∧ (aneEffect m s).x = s.x ∧ (aneEffect m s).y = s.y ∧
    (aneEffect m s).sp = s.sp ∧ (aneEffect m s).pc = s.pc ∧
    (aneEffect m s).flags = s.flags.setNZ (aneValue Config.aneMagic m s) ∧ (aneEffect m s).halted = s.halted ∧
    (aneEffect m s).irqLine = s.irqLine ∧ (aneEffect m s).nmiLine = s.nmiLine ∧
    (aneEffect m s).nmiPending = s.nmiPending ∧ (aneEffect m s).cycles = s.cycles ∧
    (aneEffect m s).outcome = s.outcome ∧ (aneEffect m s).mem = s.mem ∧ (aneEffect m s).bus = s.bus ∧
    (aneEffect m s).devices = s.devices := by
  exact ⟨rfl, rfl, rfl, rfl, rfl, rfl, rfl, rfl, rfl, rfl, rfl, rfl, rfl, rfl, rfl⟩

@[simp] theorem lxaEffect_fields (m : Byte) (s : State) :
    (lxaEffect m s).a = lxaValue Config.lxaMagic m s ∧ (lxaEffect m s).x = lxaValue Config.lxaMagic m s ∧
    (lxaEffect m s).y = s.y ∧ (lxaEffect m s).sp = s.sp ∧ (lxaEffect m s).pc = s.pc ∧
    (lxaEffect m s).flags = s.flags.setNZ (lxaValue Config.lxaMagic m s) ∧ (lxaEffect m s).halted = s.halted ∧
    (lxaEffect m s).irqLine = s.irqLine ∧ (lxaEffect m s).nmiLine = s.nmiLine ∧
    (lxaEffect m s).nmiPending = s.nmiPending ∧ (lxaEffect m s).cycles = s.cycles ∧
    (lxaEffect m s).outcome = s.outcome ∧ (lxaEffect m s).mem = s.mem ∧ (lxaEffect m s).bus = s.bus ∧
    (lxaEffect m s).devices = s.devices := by
  exact ⟨rfl, rfl, rfl, rfl, rfl, rfl, rfl, rfl, rfl, rfl, rfl, rfl, rfl, rfl, rfl⟩

@[simp] theorem aslEffect_fields (old new : Byte) (s : State) :
    (aslEffect old new s).a = s.a ∧ (aslEffect old new s).x = s.x ∧ (aslEffect old new s).y = s.y ∧
    (aslEffect old new s).sp = s.sp ∧ (aslEffect old new s).pc = s.pc ∧
    (aslEffect old new s).flags = s.flags.setShift (outLeft old) new ∧ (aslEffect old new s).halted = s.halted ∧
    (aslEffect old new s).irqLine = s.irqLine ∧ (aslEffect old new s).nmiLine = s.nmiLine ∧
    (aslEffect old new s).nmiPending = s.nmiPending ∧ (aslEffect old new s).cycles = s.cycles ∧
    (aslEffect old new s).outcome = s.outcome ∧ (aslEffect old new s).mem = s.mem ∧ (aslEffect old new s).bus = s.bus ∧
    (aslEffect old new s).devices = s.devices := by
  exact ⟨rfl, rfl, rfl, rfl, rfl, rfl, rfl, rfl, rfl, rfl, rfl, rfl, rfl, rfl, rfl⟩

@[simp] theorem lsrEffect_fields (old new : Byte) (s : State) :
    (lsrEffect old new s).a = s.a ∧ (lsrEffect old new s).x = s.x ∧ (lsrEffect old new s).y = s.y ∧
    (lsrEffect old new s).sp = s.sp ∧ (lsrEffect old new s).pc = s.pc ∧
    (lsrEffect old new s).flags = s.flags.setShift (outRight old) new ∧ (lsrEffect old new s).halted = s.halted ∧
    (lsrEffect old new s).irqLine = s.irqLine ∧ (lsrEffect old new s).nmiLine = s.nmiLine ∧
    (lsrEffect old new s).nmiPending = s.nmiPending ∧ (lsrEffect old new s).cycles = s.cycles ∧
    (lsrEffect old new s).outcome = s.outcome ∧ (lsrEffect old new s).mem = s.mem ∧ (lsrEffect old new s).bus = s.bus ∧
    (lsrEffect old new s).devices = s.devices := by
  exact ⟨rfl, rfl, rfl, rfl, rfl, rfl, rfl, rfl, rfl, rfl, rfl, rfl, rfl, rfl, rfl⟩

@[simp] theorem rolEffect_fields (old new : Byte) (s : State) :
    (rolEffect old new s).a = s.a ∧ (rolEffect old new s).x = s.x ∧ (rolEffect old new s).y = s.y ∧
    (rolEffect old new s).sp = s.sp ∧ (rolEffect old new s).pc = s.pc ∧
    (rolEffect old new s).flags = s.flags.setShift (outLeft old) new ∧ (rolEffect old new s).halted = s.halted ∧
    (rolEffect old new s).irqLine = s.irqLine ∧ (rolEffect old new s).nmiLine = s.nmiLine ∧
    (rolEffect old new s).nmiPending = s.nmiPending ∧ (rolEffect old new s).cycles = s.cycles ∧
    (rolEffect old new s).outcome = s.outcome ∧ (rolEffect old new s).mem = s.mem ∧ (rolEffect old new s).bus = s.bus ∧
    (rolEffect old new s).devices = s.devices := by
  exact ⟨rfl, rfl, rfl, rfl, rfl, rfl, rfl, rfl, rfl, rfl, rfl, rfl, rfl, rfl, rfl⟩

@[simp] theorem rorEffect_fields (old new : Byte) (s : State) :
    (rorEffect old new s).a = s.a ∧ (rorEffect old new s).x = s.x ∧ (rorEffect old new s).y = s.y ∧
    (rorEffect old new s).sp = s.sp ∧ (rorEffect old new s).pc = s.pc ∧
    (rorEffect old new s).flags = s.flags.setShift (outRight old) new ∧ (rorEffect old new s).halted = s.halted ∧
    (rorEffect old new s).irqLine = s.irqLine ∧ (rorEffect old new s).nmiLine = s.nmiLine ∧
    (rorEffect old new s).nmiPending = s.nmiPending ∧ (rorEffect old new s).cycles = s.cycles ∧
    (rorEffect old new s).outcome = s.outcome ∧ (rorEffect old new s).mem = s.mem ∧ (rorEffect old new s).bus = s.bus ∧
    (rorEffect old new s).devices = s.devices := by
  exact ⟨rfl, rfl, rfl, rfl, rfl, rfl, rfl, rfl, rfl, rfl, rfl, rfl, rfl, rfl, rfl⟩

@[simp] theorem incDecEffect_fields (old new : Byte) (s : State) :
    (incDecEffect old new s).a = s.a ∧ (incDecEffect old new s).x = s.x ∧ (incDecEffect old new s).y = s.y ∧
    (incDecEffect old new s).sp = s.sp ∧ (incDecEffect old new s).pc = s.pc ∧
    (incDecEffect old new s).flags = s.flags.setNZ new ∧ (incDecEffect old new s).halted = s.halted ∧
    (incDecEffect old new s).irqLine = s.irqLine ∧ (incDecEffect old new s).nmiLine = s.nmiLine ∧
    (incDecEffect old new s).nmiPending = s.nmiPending ∧ (incDecEffect old new s).cycles = s.cycles ∧
    (incDecEffect old new s).outcome = s.outcome ∧ (incDecEffect old new s).mem = s.mem ∧
    (incDecEffect old new s).bus = s.bus ∧ (incDecEffect old new s).devices = s.devices := by
  exact ⟨rfl, rfl, rfl, rfl, rfl, rfl, rfl, rfl, rfl, rfl, rfl, rfl, rfl, rfl, rfl⟩

@[simp] theorem sloEffect_fields (old new : Byte) (s : State) :
    (sloEffect old new s).a = s.a ||| new ∧ (sloEffect old new s).x = s.x ∧ (sloEffect old new s).y = s.y ∧
    (sloEffect old new s).sp = s.sp ∧ (sloEffect old new s).pc = s.pc ∧
    (sloEffect old new s).flags = s.flags.setShift (outLeft old) (s.a ||| new) ∧
    (sloEffect old new s).halted = s.halted ∧ (sloEffect old new s).irqLine = s.irqLine ∧
    (sloEffect old new s).nmiLine = s.nmiLine ∧ (sloEffect old new s).nmiPending = s.nmiPending ∧
    (sloEffect old new s).cycles = s.cycles ∧ (sloEffect old new s).outcome = s.outcome ∧
    (sloEffect old new s).mem = s.mem ∧ (sloEffect old new s).bus = s.bus ∧ (sloEffect old new s).devices = s.devices := by
  exact ⟨rfl, rfl, rfl, rfl, rfl, rfl, rfl, rfl, rfl, rfl, rfl, rfl, rfl, rfl, rfl⟩

@[simp] theorem rlaEffect_fields (old new : Byte) (s : State) :
    (rlaEffect old new s).a = s.a &&& new ∧ (rlaEffect old new s).x = s.x ∧ (rlaEffect old new s).y = s.y ∧
    (rlaEffect old new s).sp = s.sp ∧ (rlaEffect old new s).pc = s.pc ∧
    (rlaEffect old new s).flags = s.flags.setShift (outLeft old) (s.a &&& new) ∧
    (rlaEffect old new s).halted = s.halted ∧ (rlaEffect old new s).irqLine = s.irqLine ∧
    (rlaEffect old new s).nmiLine = s.nmiLine ∧ (rlaEffect old new s).nmiPending = s.nmiPending ∧
    (rlaEffect old new s).cycles = s.cycles ∧ (rlaEffect old new s).outcome = s.outcome ∧
    (rlaEffect old new s).mem = s.mem ∧ (rlaEffect old new s).bus = s.bus ∧ (rlaEffect old new s).devices = s.devices := by
  exact ⟨rfl, rfl, rfl, rfl, rfl, rfl, rfl, rfl, rfl, rfl, rfl, rfl, rfl, rfl, rfl⟩

@[simp] theorem sreEffect_fields (old new : Byte) (s : State) :
    (sreEffect old new s).a = s.a ^^^ new ∧ (sreEffect old new s).x = s.x ∧ (sreEffect old new s).y = s.y ∧
    (sreEffect old new s).sp = s.sp ∧ (sreEffect old new s).pc = s.pc ∧
    (sreEffect old new s).flags = s.flags.setShift (outRight old) (s.a ^^^ new) ∧
    (sreEffect old new s).halted = s.halted ∧ (sreEffect old new s).irqLine = s.irqLine ∧
    (sreEffect old new s).nmiLine = s.nmiLine ∧ (sreEffect old new s).nmiPending = s.nmiPending ∧
    (sreEffect old new s).cycles = s.cycles ∧ (sreEffect old new s).outcome = s.outcome ∧
    (sreEffect old new s).mem = s.mem ∧ (sreEffect old new s).bus = s.bus ∧ (sreEffect old new s).devices = s.devices := by
  exact ⟨rfl, rfl, rfl, rfl, rfl, rfl, rfl, rfl, rfl, rfl, rfl, rfl, rfl, rfl, rfl⟩

@[simp] theorem rraEffect_fields (old new : Byte) (s : State) :
    (rraEffect old new s).a = (addWithCarry s.a new (outRight old)).sum ∧ (rraEffect old new s).x = s.x ∧
    (rraEffect old new s).y = s.y ∧ (rraEffect old new s).sp = s.sp ∧ (rraEffect old new s).pc = s.pc ∧
    (rraEffect old new s).flags = s.flags.setArith (addWithCarry s.a new (outRight old)) ∧
    (rraEffect old new s).halted = s.halted ∧ (rraEffect old new s).irqLine = s.irqLine ∧
    (rraEffect old new s).nmiLine = s.nmiLine ∧ (rraEffect old new s).nmiPending = s.nmiPending ∧
    (rraEffect old new s).cycles = s.cycles ∧ (rraEffect old new s).outcome = s.outcome ∧
    (rraEffect old new s).mem = s.mem ∧ (rraEffect old new s).bus = s.bus ∧ (rraEffect old new s).devices = s.devices := by
  exact ⟨rfl, rfl, rfl, rfl, rfl, rfl, rfl, rfl, rfl, rfl, rfl, rfl, rfl, rfl, rfl⟩

@[simp] theorem dcpEffect_fields (old new : Byte) (s : State) :
    (dcpEffect old new s).a = s.a ∧ (dcpEffect old new s).x = s.x ∧ (dcpEffect old new s).y = s.y ∧
    (dcpEffect old new s).sp = s.sp ∧ (dcpEffect old new s).pc = s.pc ∧
    (dcpEffect old new s).flags = s.flags.compare s.a new ∧ (dcpEffect old new s).halted = s.halted ∧
    (dcpEffect old new s).irqLine = s.irqLine ∧ (dcpEffect old new s).nmiLine = s.nmiLine ∧
    (dcpEffect old new s).nmiPending = s.nmiPending ∧ (dcpEffect old new s).cycles = s.cycles ∧
    (dcpEffect old new s).outcome = s.outcome ∧ (dcpEffect old new s).mem = s.mem ∧ (dcpEffect old new s).bus = s.bus ∧
    (dcpEffect old new s).devices = s.devices := by
  exact ⟨rfl, rfl, rfl, rfl, rfl, rfl, rfl, rfl, rfl, rfl, rfl, rfl, rfl, rfl, rfl⟩

@[simp] theorem iscEffect_fields (old new : Byte) (s : State) :
    (iscEffect old new s).a = (subWithBorrow s.a new s.flags.c).sum ∧ (iscEffect old new s).x = s.x ∧
    (iscEffect old new s).y = s.y ∧ (iscEffect old new s).sp = s.sp ∧ (iscEffect old new s).pc = s.pc ∧
    (iscEffect old new s).flags = s.flags.setArith (subWithBorrow s.a new s.flags.c) ∧
    (iscEffect old new s).halted = s.halted ∧ (iscEffect old new s).irqLine = s.irqLine ∧
    (iscEffect old new s).nmiLine = s.nmiLine ∧ (iscEffect old new s).nmiPending = s.nmiPending ∧
    (iscEffect old new s).cycles = s.cycles ∧ (iscEffect old new s).outcome = s.outcome ∧
    (iscEffect old new s).mem = s.mem ∧ (iscEffect old new s).bus = s.bus ∧ (iscEffect old new s).devices = s.devices := by
  exact ⟨rfl, rfl, rfl, rfl, rfl, rfl, rfl, rfl, rfl, rfl, rfl, rfl, rfl, rfl, rfl⟩

end Sys2Proof.Machine
end

