-- ==== Sys2Proof/Laws/Meanings.lean ====
section
/-! SUPPORT. What `exec` answers on each instruction, as one call of a shared rule, so that a proof by cases cites one line for each
instruction and the rules' own lemmas (Sys2Proof/Laws/Rules.lean) for the rest. -/

namespace Sys2Proof.Machine

@[simp] theorem exec_oraIzx (z : Byte) (s : State) : exec (.oraIzx z) s = readRule (.izx z) 6 false oraEffect s := rfl
@[simp] theorem exec_sloIzx (z : Byte) (s : State) : exec (.sloIzx z) s = modifyRule (.izx z) 8 aslByte sloEffect s := rfl
@[simp] theorem exec_nopZp04 (z : Byte) (s : State) : exec (.nopZp04 z) s = readRule (.zp z) 3 false nopEffect s := rfl
@[simp] theorem exec_oraZp (z : Byte) (s : State) : exec (.oraZp z) s = readRule (.zp z) 3 false oraEffect s := rfl
@[simp] theorem exec_aslZp (z : Byte) (s : State) : exec (.aslZp z) s = modifyRule (.zp z) 5 aslByte aslEffect s := rfl
@[simp] theorem exec_sloZp (z : Byte) (s : State) : exec (.sloZp z) s = modifyRule (.zp z) 5 aslByte sloEffect s := rfl
@[simp] theorem exec_oraImm (v : Byte) (s : State) : exec (.oraImm v) s = readRule (.imm v) 2 false oraEffect s := rfl
@[simp] theorem exec_anc0B (v : Byte) (s : State) : exec (.anc0B v) s = readRule (.imm v) 2 false ancEffect s := rfl
@[simp] theorem exec_nopAbs0C (w : Addr) (s : State) : exec (.nopAbs0C w) s = readRule (.abs w) 4 false nopEffect s := rfl
@[simp] theorem exec_oraAbs (w : Addr) (s : State) : exec (.oraAbs w) s = readRule (.abs w) 4 false oraEffect s := rfl
@[simp] theorem exec_aslAbs (w : Addr) (s : State) : exec (.aslAbs w) s = modifyRule (.abs w) 6 aslByte aslEffect s := rfl
@[simp] theorem exec_sloAbs (w : Addr) (s : State) : exec (.sloAbs w) s = modifyRule (.abs w) 6 aslByte sloEffect s := rfl
@[simp] theorem exec_bpl (d : Byte) (s : State) : exec (.bpl d) s = branchRule (!s.flags.n) d s := rfl
@[simp] theorem exec_oraIzy (z : Byte) (s : State) : exec (.oraIzy z) s = readRule (.izy z) 5 true oraEffect s := rfl
@[simp] theorem exec_sloIzy (z : Byte) (s : State) : exec (.sloIzy z) s = modifyRule (.izy z) 8 aslByte sloEffect s := rfl
@[simp] theorem exec_nopZpx14 (z : Byte) (s : State) : exec (.nopZpx14 z) s = readRule (.zpx z) 4 false nopEffect s := rfl
@[simp] theorem exec_oraZpx (z : Byte) (s : State) : exec (.oraZpx z) s = readRule (.zpx z) 4 false oraEffect s := rfl
@[simp] theorem exec_aslZpx (z : Byte) (s : State) : exec (.aslZpx z) s = modifyRule (.zpx z) 6 aslByte aslEffect s := rfl
@[simp] theorem exec_sloZpx (z : Byte) (s : State) : exec (.sloZpx z) s = modifyRule (.zpx z) 6 aslByte sloEffect s := rfl
@[simp] theorem exec_oraAby (w : Addr) (s : State) : exec (.oraAby w) s = readRule (.aby w) 4 true oraEffect s := rfl
@[simp] theorem exec_sloAby (w : Addr) (s : State) : exec (.sloAby w) s = modifyRule (.aby w) 7 aslByte sloEffect s := rfl
@[simp] theorem exec_nopAbx1C (w : Addr) (s : State) : exec (.nopAbx1C w) s = readRule (.abx w) 4 true nopEffect s := rfl
@[simp] theorem exec_oraAbx (w : Addr) (s : State) : exec (.oraAbx w) s = readRule (.abx w) 4 true oraEffect s := rfl
@[simp] theorem exec_aslAbx (w : Addr) (s : State) : exec (.aslAbx w) s = modifyRule (.abx w) 7 aslByte aslEffect s := rfl
@[simp] theorem exec_sloAbx (w : Addr) (s : State) : exec (.sloAbx w) s = modifyRule (.abx w) 7 aslByte sloEffect s := rfl
@[simp] theorem exec_jsr (w : Addr) (s : State) : exec (.jsr w) s = jsrRule w s := rfl
@[simp] theorem exec_andIzx (z : Byte) (s : State) : exec (.andIzx z) s = readRule (.izx z) 6 false andEffect s := rfl
@[simp] theorem exec_rlaIzx (z : Byte) (s : State) : exec (.rlaIzx z) s = modifyRule (.izx z) 8 (fun m => rolByte m s.flags.c) rlaEffect s := rfl
@[simp] theorem exec_bitZp (z : Byte) (s : State) : exec (.bitZp z) s = readRule (.zp z) 3 false bitEffect s := rfl
@[simp] theorem exec_andZp (z : Byte) (s : State) : exec (.andZp z) s = readRule (.zp z) 3 false andEffect s := rfl
@[simp] theorem exec_rolZp (z : Byte) (s : State) : exec (.rolZp z) s = modifyRule (.zp z) 5 (fun m => rolByte m s.flags.c) rolEffect s := rfl
@[simp] theorem exec_rlaZp (z : Byte) (s : State) : exec (.rlaZp z) s = modifyRule (.zp z) 5 (fun m => rolByte m s.flags.c) rlaEffect s := rfl
@[simp] theorem exec_andImm (v : Byte) (s : State) : exec (.andImm v) s = readRule (.imm v) 2 false andEffect s := rfl
@[simp] theorem exec_anc2B (v : Byte) (s : State) : exec (.anc2B v) s = readRule (.imm v) 2 false ancEffect s := rfl
@[simp] theorem exec_bitAbs (w : Addr) (s : State) : exec (.bitAbs w) s = readRule (.abs w) 4 false bitEffect s := rfl
@[simp] theorem exec_andAbs (w : Addr) (s : State) : exec (.andAbs w) s = readRule (.abs w) 4 false andEffect s := rfl
@[simp] theorem exec_rolAbs (w : Addr) (s : State) : exec (.rolAbs w) s = modifyRule (.abs w) 6 (fun m => rolByte m s.flags.c) rolEffect s := rfl
@[simp] theorem exec_rlaAbs (w : Addr) (s : State) : exec (.rlaAbs w) s = modifyRule (.abs w) 6 (fun m => rolByte m s.flags.c) rlaEffect s := rfl
@[simp] theorem exec_bmi (d : Byte) (s : State) : exec (.bmi d) s = branchRule (s.flags.n) d s := rfl
@[simp] theorem exec_andIzy (z : Byte) (s : State) : exec (.andIzy z) s = readRule (.izy z) 5 true andEffect s := rfl
@[simp] theorem exec_rlaIzy (z : Byte) (s : State) : exec (.rlaIzy z) s = modifyRule (.izy z) 8 (fun m => rolByte m s.flags.c) rlaEffect s := rfl
@[simp] theorem exec_nopZpx34 (z : Byte) (s : State) : exec (.nopZpx34 z) s = readRule (.zpx z) 4 false nopEffect s := rfl
@[simp] theorem exec_andZpx (z : Byte) (s : State) : exec (.andZpx z) s = readRule (.zpx z) 4 false andEffect s := rfl
@[simp] theorem exec_rolZpx (z : Byte) (s : State) : exec (.rolZpx z) s = modifyRule (.zpx z) 6 (fun m => rolByte m s.flags.c) rolEffect s := rfl
@[simp] theorem exec_rlaZpx (z : Byte) (s : State) : exec (.rlaZpx z) s = modifyRule (.zpx z) 6 (fun m => rolByte m s.flags.c) rlaEffect s := rfl
@[simp] theorem exec_andAby (w : Addr) (s : State) : exec (.andAby w) s = readRule (.aby w) 4 true andEffect s := rfl
@[simp] theorem exec_rlaAby (w : Addr) (s : State) : exec (.rlaAby w) s = modifyRule (.aby w) 7 (fun m => rolByte m s.flags.c) rlaEffect s := rfl
@[simp] theorem exec_nopAbx3C (w : Addr) (s : State) : exec (.nopAbx3C w) s = readRule (.abx w) 4 true nopEffect s := rfl
@[simp] theorem exec_andAbx (w : Addr) (s : State) : exec (.andAbx w) s = readRule (.abx w) 4 true andEffect s := rfl
@[simp] theorem exec_rolAbx (w : Addr) (s : State) : exec (.rolAbx w) s = modifyRule (.abx w) 7 (fun m => rolByte m s.flags.c) rolEffect s := rfl
@[simp] theorem exec_rlaAbx (w : Addr) (s : State) : exec (.rlaAbx w) s = modifyRule (.abx w) 7 (fun m => rolByte m s.flags.c) rlaEffect s := rfl
@[simp] theorem exec_eorIzx (z : Byte) (s : State) : exec (.eorIzx z) s = readRule (.izx z) 6 false eorEffect s := rfl
@[simp] theorem exec_sreIzx (z : Byte) (s : State) : exec (.sreIzx z) s = modifyRule (.izx z) 8 lsrByte sreEffect s := rfl
@[simp] theorem exec_nopZp44 (z : Byte) (s : State) : exec (.nopZp44 z) s = readRule (.zp z) 3 false nopEffect s := rfl
@[simp] theorem exec_eorZp (z : Byte) (s : State) : exec (.eorZp z) s = readRule (.zp z) 3 false eorEffect s := rfl
@[simp] theorem exec_lsrZp (z : Byte) (s : State) : exec (.lsrZp z) s = modifyRule (.zp z) 5 lsrByte lsrEffect s := rfl
@[simp] theorem exec_sreZp (z : Byte) (s : State) : exec (.sreZp z) s = modifyRule (.zp z) 5 lsrByte sreEffect s := rfl
@[simp] theorem exec_eorImm (v : Byte) (s : State) : exec (.eorImm v) s = readRule (.imm v) 2 false eorEffect s := rfl
@[simp] theorem exec_alr (v : Byte) (s : State) : exec (.alr v) s = readRule (.imm v) 2 false alrEffect s := rfl
@[simp] theorem exec_jmpAbs (w : Addr) (s : State) : exec (.jmpAbs w) s = .next (s.retireAt w 3) := rfl
@[simp] theorem exec_eorAbs (w : Addr) (s : State) : exec (.eorAbs w) s = readRule (.abs w) 4 false eorEffect s := rfl
@[simp] theorem exec_lsrAbs (w : Addr) (s : State) : exec (.lsrAbs w) s = modifyRule (.abs w) 6 lsrByte lsrEffect s := rfl
@[simp] theorem exec_sreAbs (w : Addr) (s : State) : exec (.sreAbs w) s = modifyRule (.abs w) 6 lsrByte sreEffect s := rfl
@[simp] theorem exec_bvc (d : Byte) (s : State) : exec (.bvc d) s = branchRule (!s.flags.v) d s := rfl
@[simp] theorem exec_eorIzy (z : Byte) (s : State) : exec (.eorIzy z) s = readRule (.izy z) 5 true eorEffect s := rfl
@[simp] theorem exec_sreIzy (z : Byte) (s : State) : exec (.sreIzy z) s = modifyRule (.izy z) 8 lsrByte sreEffect s := rfl
@[simp] theorem exec_nopZpx54 (z : Byte) (s : State) : exec (.nopZpx54 z) s = readRule (.zpx z) 4 false nopEffect s := rfl
@[simp] theorem exec_eorZpx (z : Byte) (s : State) : exec (.eorZpx z) s = readRule (.zpx z) 4 false eorEffect s := rfl
@[simp] theorem exec_lsrZpx (z : Byte) (s : State) : exec (.lsrZpx z) s = modifyRule (.zpx z) 6 lsrByte lsrEffect s := rfl
@[simp] theorem exec_sreZpx (z : Byte) (s : State) : exec (.sreZpx z) s = modifyRule (.zpx z) 6 lsrByte sreEffect s := rfl
@[simp] theorem exec_eorAby (w : Addr) (s : State) : exec (.eorAby w) s = readRule (.aby w) 4 true eorEffect s := rfl
@[simp] theorem exec_sreAby (w : Addr) (s : State) : exec (.sreAby w) s = modifyRule (.aby w) 7 lsrByte sreEffect s := rfl
@[simp] theorem exec_nopAbx5C (w : Addr) (s : State) : exec (.nopAbx5C w) s = readRule (.abx w) 4 true nopEffect s := rfl
@[simp] theorem exec_eorAbx (w : Addr) (s : State) : exec (.eorAbx w) s = readRule (.abx w) 4 true eorEffect s := rfl
@[simp] theorem exec_lsrAbx (w : Addr) (s : State) : exec (.lsrAbx w) s = modifyRule (.abx w) 7 lsrByte lsrEffect s := rfl
@[simp] theorem exec_sreAbx (w : Addr) (s : State) : exec (.sreAbx w) s = modifyRule (.abx w) 7 lsrByte sreEffect s := rfl
@[simp] theorem exec_adcIzx (z : Byte) (s : State) : exec (.adcIzx z) s = readRule (.izx z) 6 false adcEffect s := rfl
@[simp] theorem exec_rraIzx (z : Byte) (s : State) : exec (.rraIzx z) s = modifyRule (.izx z) 8 (fun m => rorByte m s.flags.c) rraEffect s := rfl
@[simp] theorem exec_nopZp64 (z : Byte) (s : State) : exec (.nopZp64 z) s = readRule (.zp z) 3 false nopEffect s := rfl
@[simp] theorem exec_adcZp (z : Byte) (s : State) : exec (.adcZp z) s = readRule (.zp z) 3 false adcEffect s := rfl
@[simp] theorem exec_rorZp (z : Byte) (s : State) : exec (.rorZp z) s = modifyRule (.zp z) 5 (fun m => rorByte m s.flags.c) rorEffect s := rfl
@[simp] theorem exec_rraZp (z : Byte) (s : State) : exec (.rraZp z) s = modifyRule (.zp z) 5 (fun m => rorByte m s.flags.c) rraEffect s := rfl
@[simp] theorem exec_adcImm (v : Byte) (s : State) : exec (.adcImm v) s = readRule (.imm v) 2 false adcEffect s := rfl
@[simp] theorem exec_arr (v : Byte) (s : State) : exec (.arr v) s = readRule (.imm v) 2 false arrEffect s := rfl
@[simp] theorem exec_jmpInd (w : Addr) (s : State) : exec (.jmpInd w) s = .next (s.retireAt (indirectTarget w s) 5) := rfl
@[simp] theorem exec_adcAbs (w : Addr) (s : State) : exec (.adcAbs w) s = readRule (.abs w) 4 false adcEffect s := rfl
@[simp] theorem exec_rorAbs (w : Addr) (s : State) : exec (.rorAbs w) s = modifyRule (.abs w) 6 (fun m => rorByte m s.flags.c) rorEffect s := rfl
@[simp] theorem exec_rraAbs (w : Addr) (s : State) : exec (.rraAbs w) s = modifyRule (.abs w) 6 (fun m => rorByte m s.flags.c) rraEffect s := rfl
@[simp] theorem exec_bvs (d : Byte) (s : State) : exec (.bvs d) s = branchRule (s.flags.v) d s := rfl
@[simp] theorem exec_adcIzy (z : Byte) (s : State) : exec (.adcIzy z) s = readRule (.izy z) 5 true adcEffect s := rfl
@[simp] theorem exec_rraIzy (z : Byte) (s : State) : exec (.rraIzy z) s = modifyRule (.izy z) 8 (fun m => rorByte m s.flags.c) rraEffect s := rfl
@[simp] theorem exec_nopZpx74 (z : Byte) (s : State) : exec (.nopZpx74 z) s = readRule (.zpx z) 4 false nopEffect s := rfl
@[simp] theorem exec_adcZpx (z : Byte) (s : State) : exec (.adcZpx z) s = readRule (.zpx z) 4 false adcEffect s := rfl
@[simp] theorem exec_rorZpx (z : Byte) (s : State) : exec (.rorZpx z) s = modifyRule (.zpx z) 6 (fun m => rorByte m s.flags.c) rorEffect s := rfl
@[simp] theorem exec_rraZpx (z : Byte) (s : State) : exec (.rraZpx z) s = modifyRule (.zpx z) 6 (fun m => rorByte m s.flags.c) rraEffect s := rfl
@[simp] theorem exec_adcAby (w : Addr) (s : State) : exec (.adcAby w) s = readRule (.aby w) 4 true adcEffect s := rfl
@[simp] theorem exec_rraAby (w : Addr) (s : State) : exec (.rraAby w) s = modifyRule (.aby w) 7 (fun m => rorByte m s.flags.c) rraEffect s := rfl
@[simp] theorem exec_nopAbx7C (w : Addr) (s : State) : exec (.nopAbx7C w) s = readRule (.abx w) 4 true nopEffect s := rfl
@[simp] theorem exec_adcAbx (w : Addr) (s : State) : exec (.adcAbx w) s = readRule (.abx w) 4 true adcEffect s := rfl
@[simp] theorem exec_rorAbx (w : Addr) (s : State) : exec (.rorAbx w) s = modifyRule (.abx w) 7 (fun m => rorByte m s.flags.c) rorEffect s := rfl
@[simp] theorem exec_rraAbx (w : Addr) (s : State) : exec (.rraAbx w) s = modifyRule (.abx w) 7 (fun m => rorByte m s.flags.c) rraEffect s := rfl
@[simp] theorem exec_nopImm80 (v : Byte) (s : State) : exec (.nopImm80 v) s = readRule (.imm v) 2 false nopEffect s := rfl
@[simp] theorem exec_staIzx (z : Byte) (s : State) : exec (.staIzx z) s = writeRule (.izx z) 6 s.a s := rfl
@[simp] theorem exec_nopImm82 (v : Byte) (s : State) : exec (.nopImm82 v) s = readRule (.imm v) 2 false nopEffect s := rfl
@[simp] theorem exec_saxIzx (z : Byte) (s : State) : exec (.saxIzx z) s = writeRule (.izx z) 6 (s.a &&& s.x) s := rfl
@[simp] theorem exec_styZp (z : Byte) (s : State) : exec (.styZp z) s = writeRule (.zp z) 3 s.y s := rfl
@[simp] theorem exec_staZp (z : Byte) (s : State) : exec (.staZp z) s = writeRule (.zp z) 3 s.a s := rfl
@[simp] theorem exec_stxZp (z : Byte) (s : State) : exec (.stxZp z) s = writeRule (.zp z) 3 s.x s := rfl
@[simp] theorem exec_saxZp (z : Byte) (s : State) : exec (.saxZp z) s = writeRule (.zp z) 3 (s.a &&& s.x) s := rfl
@[simp] theorem exec_nopImm89 (v : Byte) (s : State) : exec (.nopImm89 v) s = readRule (.imm v) 2 false nopEffect s := rfl
@[simp] theorem exec_ane (v : Byte) (s : State) : exec (.ane v) s = readRule (.imm v) 2 false aneEffect s := rfl
@[simp] theorem exec_styAbs (w : Addr) (s : State) : exec (.styAbs w) s = writeRule (.abs w) 4 s.y s := rfl
@[simp] theorem exec_staAbs (w : Addr) (s : State) : exec (.staAbs w) s = writeRule (.abs w) 4 s.a s := rfl
@[simp] theorem exec_stxAbs (w : Addr) (s : State) : exec (.stxAbs w) s = writeRule (.abs w) 4 s.x s := rfl
@[simp] theorem exec_saxAbs (w : Addr) (s : State) : exec (.saxAbs w) s = writeRule (.abs w) 4 (s.a &&& s.x) s := rfl
@[simp] theorem exec_bcc (d : Byte) (s : State) : exec (.bcc d) s = branchRule (!s.flags.c) d s := rfl
@[simp] theorem exec_staIzy (z : Byte) (s : State) : exec (.staIzy z) s = writeRule (.izy z) 6 s.a s := rfl
@[simp] theorem exec_shaIzy (z : Byte) (s : State) : exec (.shaIzy z) s = unstableRule (.izy z) 6 (s.a &&& s.x) s := rfl
@[simp] theorem exec_styZpx (z : Byte) (s : State) : exec (.styZpx z) s = writeRule (.zpx z) 4 s.y s := rfl
@[simp] theorem exec_staZpx (z : Byte) (s : State) : exec (.staZpx z) s = writeRule (.zpx z) 4 s.a s := rfl
@[simp] theorem exec_stxZpy (z : Byte) (s : State) : exec (.stxZpy z) s = writeRule (.zpy z) 4 s.x s := rfl
@[simp] theorem exec_saxZpy (z : Byte) (s : State) : exec (.saxZpy z) s = writeRule (.zpy z) 4 (s.a &&& s.x) s := rfl
@[simp] theorem exec_staAby (w : Addr) (s : State) : exec (.staAby w) s = writeRule (.aby w) 5 s.a s := rfl
@[simp] theorem exec_tas (w : Addr) (s : State) : exec (.tas w) s = unstableRule (.aby w) 5 (s.a &&& s.x) (s.setSp (s.a &&& s.x)) := rfl
@[simp] theorem exec_shy (w : Addr) (s : State) : exec (.shy w) s = unstableRule (.abx w) 5 s.y s := rfl
@[simp] theorem exec_staAbx (w : Addr) (s : State) : exec (.staAbx w) s = writeRule (.abx w) 5 s.a s := rfl
@[simp] theorem exec_shx (w : Addr) (s : State) : exec (.shx w) s = unstableRule (.aby w) 5 s.x s := rfl
@[simp] theorem exec_shaAby (w : Addr) (s : State) : exec (.shaAby w) s = unstableRule (.aby w) 5 (s.a &&& s.x) s := rfl
@[simp] theorem exec_ldyImm (v : Byte) (s : State) : exec (.ldyImm v) s = readRule (.imm v) 2 false loadY s := rfl
@[simp] theorem exec_ldaIzx (z : Byte) (s : State) : exec (.ldaIzx z) s = readRule (.izx z) 6 false loadA s := rfl
@[simp] theorem exec_ldxImm (v : Byte) (s : State) : exec (.ldxImm v) s = readRule (.imm v) 2 false loadX s := rfl
@[simp] theorem exec_laxIzx (z : Byte) (s : State) : exec (.laxIzx z) s = readRule (.izx z) 6 false laxEffect s := rfl
@[simp] theorem exec_ldyZp (z : Byte) (s : State) : exec (.ldyZp z) s = readRule (.zp z) 3 false loadY s := rfl
@[simp] theorem exec_ldaZp (z : Byte) (s : State) : exec (.ldaZp z) s = readRule (.zp z) 3 false loadA s := rfl
@[simp] theorem exec_ldxZp (z : Byte) (s : State) : exec (.ldxZp z) s = readRule (.zp z) 3 false loadX s := rfl
@[simp] theorem exec_laxZp (z : Byte) (s : State) : exec (.laxZp z) s = readRule (.zp z) 3 false laxEffect s := rfl
@[simp] theorem exec_ldaImm (v : Byte) (s : State) : exec (.ldaImm v) s = readRule (.imm v) 2 false loadA s := rfl
@[simp] theorem exec_lxa (v : Byte) (s : State) : exec (.lxa v) s = readRule (.imm v) 2 false lxaEffect s := rfl
@[simp] theorem exec_ldyAbs (w : Addr) (s : State) : exec (.ldyAbs w) s = readRule (.abs w) 4 false loadY s := rfl
@[simp] theorem exec_ldaAbs (w : Addr) (s : State) : exec (.ldaAbs w) s = readRule (.abs w) 4 false loadA s := rfl
@[simp] theorem exec_ldxAbs (w : Addr) (s : State) : exec (.ldxAbs w) s = readRule (.abs w) 4 false loadX s := rfl
@[simp] theorem exec_laxAbs (w : Addr) (s : State) : exec (.laxAbs w) s = readRule (.abs w) 4 false laxEffect s := rfl
@[simp] theorem exec_bcs (d : Byte) (s : State) : exec (.bcs d) s = branchRule (s.flags.c) d s := rfl
@[simp] theorem exec_ldaIzy (z : Byte) (s : State) : exec (.ldaIzy z) s = readRule (.izy z) 5 true loadA s := rfl
@[simp] theorem exec_laxIzy (z : Byte) (s : State) : exec (.laxIzy z) s = readRule (.izy z) 5 true laxEffect s := rfl
@[simp] theorem exec_ldyZpx (z : Byte) (s : State) : exec (.ldyZpx z) s = readRule (.zpx z) 4 false loadY s := rfl
@[simp] theorem exec_ldaZpx (z : Byte) (s : State) : exec (.ldaZpx z) s = readRule (.zpx z) 4 false loadA s := rfl
@[simp] theorem exec_ldxZpy (z : Byte) (s : State) : exec (.ldxZpy z) s = readRule (.zpy z) 4 false loadX s := rfl
@[simp] theorem exec_laxZpy (z : Byte) (s : State) : exec (.laxZpy z) s = readRule (.zpy z) 4 false laxEffect s := rfl
@[simp] theorem exec_ldaAby (w : Addr) (s : State) : exec (.ldaAby w) s = readRule (.aby w) 4 true loadA s := rfl
@[simp] theorem exec_las (w : Addr) (s : State) : exec (.las w) s = readRule (.aby w) 4 true lasEffect s := rfl
@[simp] theorem exec_ldyAbx (w : Addr) (s : State) : exec (.ldyAbx w) s = readRule (.abx w) 4 true loadY s := rfl
@[simp] theorem exec_ldaAbx (w : Addr) (s : State) : exec (.ldaAbx w) s = readRule (.abx w) 4 true loadA s := rfl
@[simp] theorem exec_ldxAby (w : Addr) (s : State) : exec (.ldxAby w) s = readRule (.aby w) 4 true loadX s := rfl
@[simp] theorem exec_laxAby (w : Addr) (s : State) : exec (.laxAby w) s = readRule (.aby w) 4 true laxEffect s := rfl
@[simp] theorem exec_cpyImm (v : Byte) (s : State) : exec (.cpyImm v) s = readRule (.imm v) 2 false cpyEffect s := rfl
@[simp] theorem exec_cmpIzx (z : Byte) (s : State) : exec (.cmpIzx z) s = readRule (.izx z) 6 false cmpEffect s := rfl
@[simp] theorem exec_nopImmC2 (v : Byte) (s : State) : exec (.nopImmC2 v) s = readRule (.imm v) 2 false nopEffect s := rfl
@[simp] theorem exec_dcpIzx (z : Byte) (s : State) : exec (.dcpIzx z) s = modifyRule (.izx z) 8 (· - 1) dcpEffect s := rfl
@[simp] theorem exec_cpyZp (z : Byte) (s : State) : exec (.cpyZp z) s = readRule (.zp z) 3 false cpyEffect s := rfl
@[simp] theorem exec_cmpZp (z : Byte) (s : State) : exec (.cmpZp z) s = readRule (.zp z) 3 false cmpEffect s := rfl
@[simp] theorem exec_decZp (z : Byte) (s : State) : exec (.decZp z) s = modifyRule (.zp z) 5 (· - 1) incDecEffect s := rfl
@[simp] theorem exec_dcpZp (z : Byte) (s : State) : exec (.dcpZp z) s = modifyRule (.zp z) 5 (· - 1) dcpEffect s := rfl
@[simp] theorem exec_cmpImm (v : Byte) (s : State) : exec (.cmpImm v) s = readRule (.imm v) 2 false cmpEffect s := rfl
@[simp] theorem exec_sbx (v : Byte) (s : State) : exec (.sbx v) s = readRule (.imm v) 2 false sbxEffect s := rfl
@[simp] theorem exec_cpyAbs (w : Addr) (s : State) : exec (.cpyAbs w) s = readRule (.abs w) 4 false cpyEffect s := rfl
@[simp] theorem exec_cmpAbs (w : Addr) (s : State) : exec (.cmpAbs w) s = readRule (.abs w) 4 false cmpEffect s := rfl
@[simp] theorem exec_decAbs (w : Addr) (s : State) : exec (.decAbs w) s = modifyRule (.abs w) 6 (· - 1) incDecEffect s := rfl
@[simp] theorem exec_dcpAbs (w : Addr) (s : State) : exec (.dcpAbs w) s = modifyRule (.abs w) 6 (· - 1) dcpEffect s := rfl
@[simp] theorem exec_bne (d : Byte) (s : State) : exec (.bne d) s = branchRule (!s.flags.z) d s := rfl
@[simp] theorem exec_cmpIzy (z : Byte) (s : State) : exec (.cmpIzy z) s = readRule (.izy z) 5 true cmpEffect s := rfl
@[simp] theorem exec_dcpIzy (z : Byte) (s : State) : exec (.dcpIzy z) s = modifyRule (.izy z) 8 (· - 1) dcpEffect s := rfl
@[simp] theorem exec_nopZpxD4 (z : Byte) (s : State) : exec (.nopZpxD4 z) s = readRule (.zpx z) 4 false nopEffect s := rfl
@[simp] theorem exec_cmpZpx (z : Byte) (s : State) : exec (.cmpZpx z) s = readRule (.zpx z) 4 false cmpEffect s := rfl
@[simp] theorem exec_decZpx (z : Byte) (s : State) : exec (.decZpx z) s = modifyRule (.zpx z) 6 (· - 1) incDecEffect s := rfl
@[simp] theorem exec_dcpZpx (z : Byte) (s : State) : exec (.dcpZpx z) s = modifyRule (.zpx z) 6 (· - 1) dcpEffect s := rfl
@[simp] theorem exec_cmpAby (w : Addr) (s : State) : exec (.cmpAby w) s = readRule (.aby w) 4 true cmpEffect s := rfl
@[simp] theorem exec_dcpAby (w : Addr) (s : State) : exec (.dcpAby w) s = modifyRule (.aby w) 7 (· - 1) dcpEffect s := rfl
@[simp] theorem exec_nopAbxDC (w : Addr) (s : State) : exec (.nopAbxDC w) s = readRule (.abx w) 4 true nopEffect s := rfl
@[simp] theorem exec_cmpAbx (w : Addr) (s : State) : exec (.cmpAbx w) s = readRule (.abx w) 4 true cmpEffect s := rfl
@[simp] theorem exec_decAbx (w : Addr) (s : State) : exec (.decAbx w) s = modifyRule (.abx w) 7 (· - 1) incDecEffect s := rfl
@[simp] theorem exec_dcpAbx (w : Addr) (s : State) : exec (.dcpAbx w) s = modifyRule (.abx w) 7 (· - 1) dcpEffect s := rfl
@[simp] theorem exec_cpxImm (v : Byte) (s : State) : exec (.cpxImm v) s = readRule (.imm v) 2 false cpxEffect s := rfl
@[simp] theorem exec_sbcIzx (z : Byte) (s : State) : exec (.sbcIzx z) s = readRule (.izx z) 6 false sbcEffect s := rfl
@[simp] theorem exec_nopImmE2 (v : Byte) (s : State) : exec (.nopImmE2 v) s = readRule (.imm v) 2 false nopEffect s := rfl
@[simp] theorem exec_iscIzx (z : Byte) (s : State) : exec (.iscIzx z) s = modifyRule (.izx z) 8 (· + 1) iscEffect s := rfl
@[simp] theorem exec_cpxZp (z : Byte) (s : State) : exec (.cpxZp z) s = readRule (.zp z) 3 false cpxEffect s := rfl
@[simp] theorem exec_sbcZp (z : Byte) (s : State) : exec (.sbcZp z) s = readRule (.zp z) 3 false sbcEffect s := rfl
@[simp] theorem exec_incZp (z : Byte) (s : State) : exec (.incZp z) s = modifyRule (.zp z) 5 (· + 1) incDecEffect s := rfl
@[simp] theorem exec_iscZp (z : Byte) (s : State) : exec (.iscZp z) s = modifyRule (.zp z) 5 (· + 1) iscEffect s := rfl
@[simp] theorem exec_sbcImm (v : Byte) (s : State) : exec (.sbcImm v) s = readRule (.imm v) 2 false sbcEffect s := rfl
@[simp] theorem exec_usbc (v : Byte) (s : State) : exec (.usbc v) s = readRule (.imm v) 2 false sbcEffect s := rfl
@[simp] theorem exec_cpxAbs (w : Addr) (s : State) : exec (.cpxAbs w) s = readRule (.abs w) 4 false cpxEffect s := rfl
@[simp] theorem exec_sbcAbs (w : Addr) (s : State) : exec (.sbcAbs w) s = readRule (.abs w) 4 false sbcEffect s := rfl
@[simp] theorem exec_incAbs (w : Addr) (s : State) : exec (.incAbs w) s = modifyRule (.abs w) 6 (· + 1) incDecEffect s := rfl
@[simp] theorem exec_iscAbs (w : Addr) (s : State) : exec (.iscAbs w) s = modifyRule (.abs w) 6 (· + 1) iscEffect s := rfl
@[simp] theorem exec_beq (d : Byte) (s : State) : exec (.beq d) s = branchRule (s.flags.z) d s := rfl
@[simp] theorem exec_sbcIzy (z : Byte) (s : State) : exec (.sbcIzy z) s = readRule (.izy z) 5 true sbcEffect s := rfl
@[simp] theorem exec_iscIzy (z : Byte) (s : State) : exec (.iscIzy z) s = modifyRule (.izy z) 8 (· + 1) iscEffect s := rfl
@[simp] theorem exec_nopZpxF4 (z : Byte) (s : State) : exec (.nopZpxF4 z) s = readRule (.zpx z) 4 false nopEffect s := rfl
@[simp] theorem exec_sbcZpx (z : Byte) (s : State) : exec (.sbcZpx z) s = readRule (.zpx z) 4 false sbcEffect s := rfl
@[simp] theorem exec_incZpx (z : Byte) (s : State) : exec (.incZpx z) s = modifyRule (.zpx z) 6 (· + 1) incDecEffect s := rfl
@[simp] theorem exec_iscZpx (z : Byte) (s : State) : exec (.iscZpx z) s = modifyRule (.zpx z) 6 (· + 1) iscEffect s := rfl
@[simp] theorem exec_sbcAby (w : Addr) (s : State) : exec (.sbcAby w) s = readRule (.aby w) 4 true sbcEffect s := rfl
@[simp] theorem exec_iscAby (w : Addr) (s : State) : exec (.iscAby w) s = modifyRule (.aby w) 7 (· + 1) iscEffect s := rfl
@[simp] theorem exec_nopAbxFC (w : Addr) (s : State) : exec (.nopAbxFC w) s = readRule (.abx w) 4 true nopEffect s := rfl
@[simp] theorem exec_sbcAbx (w : Addr) (s : State) : exec (.sbcAbx w) s = readRule (.abx w) 4 true sbcEffect s := rfl
@[simp] theorem exec_incAbx (w : Addr) (s : State) : exec (.incAbx w) s = modifyRule (.abx w) 7 (· + 1) incDecEffect s := rfl
@[simp] theorem exec_iscAbx (w : Addr) (s : State) : exec (.iscAbx w) s = modifyRule (.abx w) 7 (· + 1) iscEffect s := rfl
@[simp] theorem exec_brk (s : State) : exec (.brk) s = .next (s.enterTrap (s.pc + 2) true Config.vecIrq .brk) := rfl
@[simp] theorem exec_jam02 (s : State) : exec (.jam02) s = jamRule s := rfl
@[simp] theorem exec_php (s : State) : exec (.php) s = impliedRule 3 (s.push (pushedStatus s.flags true)) := rfl
@[simp] theorem exec_aslAcc (s : State) : exec (.aslAcc) s = accumulatorRule (aslByte s.a) aslEffect s := rfl
@[simp] theorem exec_jam12 (s : State) : exec (.jam12) s = jamRule s := rfl
@[simp] theorem exec_clc (s : State) : exec (.clc) s = impliedRule 2 (s.setFlags { s.flags with c := false }) := rfl
@[simp] theorem exec_nopImp1A (s : State) : exec (.nopImp1A) s = impliedRule 2 s := rfl
@[simp] theorem exec_jam22 (s : State) : exec (.jam22) s = jamRule s := rfl
@[simp] theorem exec_plp (s : State) : exec (.plp) s = impliedRule 4 (s.pulled.setFlags (s.flags.pulled s.pullByte)) := rfl
@[simp] theorem exec_rolAcc (s : State) : exec (.rolAcc) s = accumulatorRule (rolByte s.a s.flags.c) rolEffect s := rfl
@[simp] theorem exec_jam32 (s : State) : exec (.jam32) s = jamRule s := rfl
@[simp] theorem exec_sec (s : State) : exec (.sec) s = impliedRule 2 (s.setFlags { s.flags with c := true }) := rfl
@[simp] theorem exec_nopImp3A (s : State) : exec (.nopImp3A) s = impliedRule 2 s := rfl
@[simp] theorem exec_rti (s : State) : exec (.rti) s = .next s.returnFromTrap := rfl
@[simp] theorem exec_jam42 (s : State) : exec (.jam42) s = jamRule s := rfl
@[simp] theorem exec_pha (s : State) : exec (.pha) s = impliedRule 3 (s.push s.a) := rfl
@[simp] theorem exec_lsrAcc (s : State) : exec (.lsrAcc) s = accumulatorRule (lsrByte s.a) lsrEffect s := rfl
@[simp] theorem exec_jam52 (s : State) : exec (.jam52) s = jamRule s := rfl
@[simp] theorem exec_cli (s : State) : exec (.cli) s = impliedRule 2 (s.setFlags { s.flags with i := false }) := rfl
@[simp] theorem exec_nopImp5A (s : State) : exec (.nopImp5A) s = impliedRule 2 s := rfl
@[simp] theorem exec_rts (s : State) : exec (.rts) s = .next (s.pulled.pulled.retireAt (wordOf s.pulled.pullByte s.pullByte + 1) 6) := rfl
@[simp] theorem exec_jam62 (s : State) : exec (.jam62) s = jamRule s := rfl
@[simp] theorem exec_pla (s : State) : exec (.pla) s = impliedRule 4 ((s.pulled.setA s.pullByte).setNZ s.pullByte) := rfl
@[simp] theorem exec_rorAcc (s : State) : exec (.rorAcc) s = accumulatorRule (rorByte s.a s.flags.c) rorEffect s := rfl
@[simp] theorem exec_jam72 (s : State) : exec (.jam72) s = jamRule s := rfl
@[simp] theorem exec_sei (s : State) : exec (.sei) s = impliedRule 2 (s.setFlags { s.flags with i := true }) := rfl
@[simp] theorem exec_nopImp7A (s : State) : exec (.nopImp7A) s = impliedRule 2 s := rfl
@[simp] theorem exec_dey (s : State) : exec (.dey) s = impliedRule 2 ((s.setY (s.y - 1)).setNZ (s.y - 1)) := rfl
@[simp] theorem exec_txa (s : State) : exec (.txa) s = impliedRule 2 ((s.setA s.x).setNZ s.x) := rfl
@[simp] theorem exec_jam92 (s : State) : exec (.jam92) s = jamRule s := rfl
@[simp] theorem exec_tya (s : State) : exec (.tya) s = impliedRule 2 ((s.setA s.y).setNZ s.y) := rfl
@[simp] theorem exec_txs (s : State) : exec (.txs) s = impliedRule 2 (s.setSp s.x) := rfl
@[simp] theorem exec_tay (s : State) : exec (.tay) s = impliedRule 2 ((s.setY s.a).setNZ s.a) := rfl
@[simp] theorem exec_tax (s : State) : exec (.tax) s = impliedRule 2 ((s.setX s.a).setNZ s.a) := rfl
@[simp] theorem exec_jamB2 (s : State) : exec (.jamB2) s = jamRule s := rfl
@[simp] theorem exec_clv (s : State) : exec (.clv) s = impliedRule 2 (s.setFlags { s.flags with v := false }) := rfl
@[simp] theorem exec_tsx (s : State) : exec (.tsx) s = impliedRule 2 ((s.setX s.sp).setNZ s.sp) := rfl
@[simp] theorem exec_iny (s : State) : exec (.iny) s = impliedRule 2 ((s.setY (s.y + 1)).setNZ (s.y + 1)) := rfl
@[simp] theorem exec_dex (s : State) : exec (.dex) s = impliedRule 2 ((s.setX (s.x - 1)).setNZ (s.x - 1)) := rfl
@[simp] theorem exec_jamD2 (s : State) : exec (.jamD2) s = jamRule s := rfl
@[simp] theorem exec_cld (s : State) : exec (.cld) s = impliedRule 2 (s.setFlags { s.flags with d := false }) := rfl
@[simp] theorem exec_nopImpDA (s : State) : exec (.nopImpDA) s = impliedRule 2 s := rfl
@[simp] theorem exec_inx (s : State) : exec (.inx) s = impliedRule 2 ((s.setX (s.x + 1)).setNZ (s.x + 1)) := rfl
@[simp] theorem exec_nop (s : State) : exec (.nop) s = impliedRule 2 s := rfl
@[simp] theorem exec_jamF2 (s : State) : exec (.jamF2) s = jamRule s := rfl
@[simp] theorem exec_sed (s : State) : exec (.sed) s = impliedRule 2 (s.setFlags { s.flags with d := true }) := rfl
@[simp] theorem exec_nopImpFA (s : State) : exec (.nopImpFA) s = impliedRule 2 s := rfl

end Sys2Proof.Machine
end

