-- ==== Sys2Proof/Laws/Memory.lean ====
section
/-! SUPPORT. The laws of storage and of the bus (spec/20_memory.md R50 to R54): a read after a write, in storage, in plain memory and under
any map of the host's, and that every memory operation keeps the canonical form. -/

namespace Sys2Proof.Machine

/-! ### Reading after an operation -/

@[simp] theorem Memory.read_erase (m : Memory) (a b : Nat) :
    Memory.read (Memory.erase m a) b = if b = a then Memory.unlisted else Memory.read m b := by
  induction m with
  | nil => simp [Memory.erase, Memory.read]
  | cons cell rest ih =>
    obtain ⟨k, v⟩ := cell
    by_cases hk : k = a
    · subst hk
      by_cases hb : b = k
      · subst hb
        simpa [Memory.erase] using ih
      · simp [Memory.erase, Memory.read, ih, hb, Ne.symm hb]
    · by_cases hb : k = b
      · subst hb
        simp [Memory.erase, Memory.read, hk]
      · simp [Memory.erase, Memory.read, hk, hb, ih]

theorem Memory.read_insert (m : Memory) (a : Nat) (v : Byte) (b : Nat) (absent : ∀ cell ∈ m, cell.1 ≠ a) :
    Memory.read (Memory.insert m a v) b = if b = a then v else Memory.read m b := by
  induction m with
  | nil =>
    by_cases hb : b = a
    · simp [Memory.insert, Memory.read, hb]
    · simp [Memory.insert, Memory.read, hb, Ne.symm hb]
  | cons cell rest ih =>
    obtain ⟨k, w⟩ := cell
    have hk : k ≠ a := absent (k, w) (by simp)
    have hrest := ih fun c hc => absent c (by simp [hc])
    by_cases hlt : a < k
    · by_cases hb : b = a
      · simp [Memory.insert, Memory.read, hlt, hb]
      · simp [Memory.insert, Memory.read, hlt, hb, Ne.symm hb]
    · by_cases hb : k = b
      · subst hb
        simp [Memory.insert, Memory.read, hlt, hk]
      · simp [Memory.insert, Memory.read, hlt, hb, hrest]

theorem Memory.erase_absent (m : Memory) (a : Nat) : ∀ cell ∈ Memory.erase m a, cell.1 ≠ a := by
  induction m with
  | nil => simp [Memory.erase]
  | cons cell rest ih =>
    obtain ⟨k, v⟩ := cell
    by_cases hk : k = a
    · simpa [Memory.erase, hk] using ih
    · intro c hc
      rw [Memory.erase, if_neg hk, List.mem_cons] at hc
      rcases hc with rfl | hc
      · exact hk
      · exact ih c hc

/-- A read after a write: the byte written at that address, and every other byte as before. -/
@[simp] theorem Memory.read_write (m : Memory) (a : Nat) (v : Byte) (b : Nat) :
    Memory.read (Memory.write m a v) b = if b = a then v else Memory.read m b := by
  unfold Memory.write
  by_cases hv : v = Memory.unlisted
  · simp [hv]
  · rw [if_neg hv, Memory.read_insert _ _ _ _ (Memory.erase_absent m a), Memory.read_erase]
    by_cases hb : b = a <;> simp [hb]

/-! ### Writing the same address twice -/

theorem Memory.erase_of_absent (m : Memory) (a : Nat) (absent : ∀ cell ∈ m, cell.1 ≠ a) : Memory.erase m a = m := by
  induction m with
  | nil => rfl
  | cons cell rest ih =>
    obtain ⟨k, v⟩ := cell
    rw [Memory.erase, if_neg (absent (k, v) (by simp)), ih fun c hc => absent c (by simp [hc])]

theorem Memory.erase_insert (m : Memory) (a : Nat) (v : Byte) : Memory.erase (Memory.insert m a v) a = Memory.erase m a := by
  induction m with
  | nil => simp [Memory.insert, Memory.erase]
  | cons cell rest ih =>
    obtain ⟨k, w⟩ := cell
    by_cases hlt : a < k
    · simp [Memory.insert, Memory.erase, hlt]
    · by_cases hk : k = a <;> simp [Memory.insert, Memory.erase, hlt, hk, ih]

/-- The second of two writes to one address is the one that counts. -/
@[simp] theorem Memory.write_write (m : Memory) (a : Nat) (v w : Byte) :
    Memory.write (Memory.write m a v) a w = Memory.write m a w := by
  have h : Memory.erase (Memory.write m a v) a = Memory.erase m a := by
    unfold Memory.write
    split
    · exact Memory.erase_of_absent _ _ (Memory.erase_absent m a)
    · rw [Memory.erase_insert, Memory.erase_of_absent _ _ (Memory.erase_absent m a)]
  simp only [Memory.write] at h ⊢
  rw [h]

/-! ### The canonical form -/

theorem Memory.wf_cons (cell : Host.Cell) (rest : Memory) :
    Memory.wf (cell :: rest) = true ↔
      cell.1 < 65536 ∧ cell.2 ≠ Memory.unlisted ∧ (∀ later ∈ rest, cell.1 < later.1) ∧ Memory.wf rest = true := by
  simp [Memory.wf, and_assoc]

theorem Memory.mem_erase {m : Memory} {a : Nat} {cell : Host.Cell} (h : cell ∈ Memory.erase m a) : cell ∈ m := by
  induction m with
  | nil => exact h
  | cons c rest ih =>
    obtain ⟨k, v⟩ := c
    by_cases hk : k = a
    · rw [Memory.erase, if_pos hk] at h
      exact List.mem_cons_of_mem _ (ih h)
    · rw [Memory.erase, if_neg hk, List.mem_cons] at h
      rcases h with rfl | h
      · simp
      · exact List.mem_cons_of_mem _ (ih h)

theorem Memory.mem_insert {m : Memory} {a : Nat} {v : Byte} {cell : Host.Cell} (h : cell ∈ Memory.insert m a v) :
    cell = (a, v) ∨ cell ∈ m := by
  induction m with
  | nil => simpa [Memory.insert] using h
  | cons c rest ih =>
    obtain ⟨k, w⟩ := c
    by_cases hlt : a < k
    · simpa [Memory.insert, hlt] using h
    · rw [Memory.insert, if_neg hlt, List.mem_cons] at h
      rcases h with rfl | h
      · simp
      · rcases ih h with rfl | h
        · simp
        · simp [h]

theorem Memory.wf_erase (m : Memory) (a : Nat) (h : Memory.wf m = true) : Memory.wf (Memory.erase m a) = true := by
  induction m with
  | nil => rfl
  | cons c rest ih =>
    obtain ⟨k, v⟩ := c
    obtain ⟨hk, hv, hlt, hrest⟩ := (Memory.wf_cons _ _).1 h
    by_cases hka : k = a
    · simpa [Memory.erase, hka] using ih hrest
    · rw [Memory.erase, if_neg hka, Memory.wf_cons]
      exact ⟨hk, hv, fun later hl => hlt later (Memory.mem_erase hl), ih hrest⟩

theorem Memory.wf_insert (m : Memory) (a : Nat) (v : Byte) (h : Memory.wf m = true) (ha : a < 65536)
    (hv : v ≠ Memory.unlisted) (absent : ∀ cell ∈ m, cell.1 ≠ a) : Memory.wf (Memory.insert m a v) = true := by
  induction m with
  | nil => simp [Memory.insert, Memory.wf, ha, hv]
  | cons c rest ih =>
    obtain ⟨k, w⟩ := c
    obtain ⟨hk, hw, hlt, hrest⟩ := (Memory.wf_cons _ _).1 h
    by_cases hak : a < k
    · rw [Memory.insert, if_pos hak, Memory.wf_cons]
      refine ⟨ha, hv, fun later hl => ?_, h⟩
      rcases List.mem_cons.1 hl with rfl | hl
      · exact hak
      · exact Nat.lt_trans hak (hlt later hl)
    · rw [Memory.insert, if_neg hak, Memory.wf_cons]
      refine ⟨hk, hw, fun later hl => ?_, ih hrest fun c hc => absent c (by simp [hc])⟩
      rcases Memory.mem_insert hl with rfl | hl
      · have : k ≠ a := absent (k, w) (by simp)
        exact Nat.lt_of_le_of_ne (Nat.le_of_not_lt hak) this
      · exact hlt later hl

/-- A write keeps the canonical form. -/
theorem Memory.wf_write (m : Memory) (a : Nat) (v : Byte) (h : Memory.wf m = true) (ha : a < 65536) :
    Memory.wf (Memory.write m a v) = true := by
  unfold Memory.write
  split
  · exact Memory.wf_erase m a h
  · next hv => exact Memory.wf_insert _ a v (Memory.wf_erase m a h) ha hv (Memory.erase_absent m a)

/-! ### The bus -/

@[simp] theorem Target.cell_reaches_cell (c d : Addr) : (Target.cell c).reaches (.cell d) = (c == d) := rfl
@[simp] theorem Target.cell_reaches_fixed (c : Addr) (v : Byte) : (Target.cell c).reaches (.fixed v) = false := rfl
@[simp] theorem Target.cell_reaches_device (c : Addr) : (Target.cell c).reaches .device = false := rfl
@[simp] theorem Target.fixed_reaches (v : Byte) (t : Target) : (Target.fixed v).reaches t = false := by cases t <;> rfl
@[simp] theorem Target.device_reaches_cell (c : Addr) : Target.device.reaches (.cell c) = false := rfl
@[simp] theorem Target.device_reaches_fixed (v : Byte) : Target.device.reaches (.fixed v) = false := rfl
@[simp] theorem Target.device_reaches_device : Target.device.reaches .device = true := rfl

/-- The empty map is plain memory. -/
theorem BusMap.plainAt_nil (a : Addr) : BusMap.plainAt [] a := ⟨rfl, rfl⟩

/-- In plain memory a write reaches its own address only. -/
@[simp] theorem BusMap.reaches_nil (written read : Addr) : BusMap.reaches [] written read = (written == read) := rfl

/-- Where two addresses are plain memory, a write at one reaches the other only if they are the same. -/
theorem BusMap.reaches_plain {bus : BusMap} {written read : Addr} (hw : bus.plainAt written) (hr : bus.plainAt read) :
    bus.reaches written read = (written == read) := by
  rw [BusMap.reaches, hw.2, hr.1, Target.cell_reaches_cell]

theorem State.readMem_plain {s : State} {a : Addr} (plain : s.bus.plainAt a) : s.readMem a = Memory.read s.mem a.toNat := by
  simp only [State.readMem, plain.1]

theorem State.cellsAfter_plain {s : State} {a : Addr} (plain : s.bus.plainAt a) (v : Byte) :
    s.cellsAfter a v = Memory.write s.mem a.toNat v := by
  simp only [State.cellsAfter, plain.2]

/-- A read that a write does not reach gives what it gave before. -/
theorem State.readMem_writeMem_of_not_reaches {s : State} {a b : Addr} (far : s.bus.reaches a b = false) (v : Byte) :
    (s.writeMem a v).readMem b = s.readMem b := by
  unfold BusMap.reaches at far
  simp only [State.readMem, State.writeMem_mem, State.writeMem_bus, State.writeMem_devices, State.cellsAfter, State.devicesAfter]
  cases hw : s.bus.target Window.writes a <;> cases hr : s.bus.target Window.reads b <;> simp [hw, hr] at far ⊢
  next c d =>
    intro h
    exact absurd (BitVec.eq_of_toNat_eq h).symm far

/-- A read after a write where both addresses are plain memory (R53). -/
theorem State.readMem_writeMem_of_plain {s : State} {a b : Addr} (ha : s.bus.plainAt a) (hb : s.bus.plainAt b) (v : Byte) :
    (s.writeMem a v).readMem b = if b = a then v else s.readMem b := by
  by_cases h : b = a
  · subst h
    rw [State.readMem_plain (s := s.writeMem b v) hb, State.writeMem_mem, State.cellsAfter_plain ha, Memory.read_write,
      if_pos rfl, if_pos rfl]
  · rw [if_neg h, State.readMem_writeMem_of_not_reaches]
    rw [BusMap.reaches_plain ha hb, beq_eq_false_iff_ne]
    exact fun e => h e.symm

/-- Where a write does not meet the host's units, the second of two writes at one address is the one that counts. -/
theorem State.writeMem_writeMem {s : State} {a : Addr} (storage : s.bus.target Window.writes a ≠ .device) (v w : Byte) :
    (s.writeMem a v).writeMem a w = s.writeMem a w := by
  have h : (s.writeMem a v).cellsAfter a w = s.cellsAfter a w ∧ (s.writeMem a v).devicesAfter a w = s.devicesAfter a w := by
    simp only [State.cellsAfter, State.devicesAfter, State.writeMem_bus, State.writeMem_mem, State.writeMem_devices]
    cases hw : s.bus.target Window.writes a <;> simp [hw] at storage ⊢
  show { s with mem := _, devices := _ } = ({ s with mem := _, devices := _ } : State)
  rw [h.1, h.2]

theorem State.wf_cellsAfter (s : State) (a : Addr) (v : Byte) (h : Memory.wf s.mem = true) :
    Memory.wf (s.cellsAfter a v) = true := by
  unfold State.cellsAfter
  split
  · exact Memory.wf_write _ _ _ h (BitVec.isLt _)
  · exact h

theorem State.wf_writeMem (s : State) (a : Addr) (v : Byte) (h : Memory.wf s.mem = true) :
    Memory.wf (s.writeMem a v).mem = true := State.wf_cellsAfter s a v h

theorem State.wf_push (s : State) (v : Byte) (h : Memory.wf s.mem = true) : Memory.wf (s.push v).mem = true :=
  State.wf_cellsAfter s (stackAddr s.sp) v h

end Sys2Proof.Machine
end

