-- ==== Sys2Proof/Laws/PerInstr.lean ====
section
/-! SUPPORT. One fact for every instruction, constructor by constructor: its table row has the mode of its operand (spec/30_encoding.md
R83, R86). What follows for all instructions: their bytes are as many as the table says (R81, R84, R87), and they are well formed. -/

namespace Sys2Proof.Laws

/-- The table row of `i` has the mode of its operand. -/
def TableRow.Statement (i : Instr) : Prop :=
  i.operand.mode = i.entry.mode

theorem TableRow.of_opcode {i : Instr} {o : Byte} (code : i.opcode = o) (mode : i.operand.mode = (opcodeTable o).mode) :
    TableRow.Statement i := by
  subst code
  exact mode

open TableRow (of_opcode)

theorem TableRow.oraIzx (z : Byte) : TableRow.Statement (.oraIzx z) := of_opcode (o := 0x01) rfl rfl
theorem TableRow.sloIzx (z : Byte) : TableRow.Statement (.sloIzx z) := of_opcode (o := 0x03) rfl rfl
theorem TableRow.nopZp04 (z : Byte) : TableRow.Statement (.nopZp04 z) := of_opcode (o := 0x04) rfl rfl
theorem TableRow.oraZp (z : Byte) : TableRow.Statement (.oraZp z) := of_opcode (o := 0x05) rfl rfl
theorem TableRow.aslZp (z : Byte) : TableRow.Statement (.aslZp z) := of_opcode (o := 0x06) rfl rfl
theorem TableRow.sloZp (z : Byte) : TableRow.Statement (.sloZp z) := of_opcode (o := 0x07) rfl rfl
theorem TableRow.oraImm (v : Byte) : TableRow.Statement (.oraImm v) := of_opcode (o := 0x09) rfl rfl
theorem TableRow.anc0B (v : Byte) : TableRow.Statement (.anc0B v) := of_opcode (o := 0x0B) rfl rfl
theorem TableRow.nopAbs0C (w : Addr) : TableRow.Statement (.nopAbs0C w) := of_opcode (o := 0x0C) rfl rfl
theorem TableRow.oraAbs (w : Addr) : TableRow.Statement (.oraAbs w) := of_opcode (o := 0x0D) rfl rfl
theorem TableRow.aslAbs (w : Addr) : TableRow.Statement (.aslAbs w) := of_opcode (o := 0x0E) rfl rfl
theorem TableRow.sloAbs (w : Addr) : TableRow.Statement (.sloAbs w) := of_opcode (o := 0x0F) rfl rfl
theorem TableRow.bpl (d : Byte) : TableRow.Statement (.bpl d) := of_opcode (o := 0x10) rfl rfl
theorem TableRow.oraIzy (z : Byte) : TableRow.Statement (.oraIzy z) := of_opcode (o := 0x11) rfl rfl
theorem TableRow.sloIzy (z : Byte) : TableRow.Statement (.sloIzy z) := of_opcode (o := 0x13) rfl rfl
theorem TableRow.nopZpx14 (z : Byte) : TableRow.Statement (.nopZpx14 z) := of_opcode (o := 0x14) rfl rfl
theorem TableRow.oraZpx (z : Byte) : TableRow.Statement (.oraZpx z) := of_opcode (o := 0x15) rfl rfl
theorem TableRow.aslZpx (z : Byte) : TableRow.Statement (.aslZpx z) := of_opcode (o := 0x16) rfl rfl
theorem TableRow.sloZpx (z : Byte) : TableRow.Statement (.sloZpx z) := of_opcode (o := 0x17) rfl rfl
theorem TableRow.oraAby (w : Addr) : TableRow.Statement (.oraAby w) := of_opcode (o := 0x19) rfl rfl
theorem TableRow.sloAby (w : Addr) : TableRow.Statement (.sloAby w) := of_opcode (o := 0x1B) rfl rfl
theorem TableRow.nopAbx1C (w : Addr) : TableRow.Statement (.nopAbx1C w) := of_opcode (o := 0x1C) rfl rfl
theorem TableRow.oraAbx (w : Addr) : TableRow.Statement (.oraAbx w) := of_opcode (o := 0x1D) rfl rfl
theorem TableRow.aslAbx (w : Addr) : TableRow.Statement (.aslAbx w) := of_opcode (o := 0x1E) rfl rfl
theorem TableRow.sloAbx (w : Addr) : TableRow.Statement (.sloAbx w) := of_opcode (o := 0x1F) rfl rfl
theorem TableRow.jsr (w : Addr) : TableRow.Statement (.jsr w) := of_opcode (o := 0x20) rfl rfl
theorem TableRow.andIzx (z : Byte) : TableRow.Statement (.andIzx z) := of_opcode (o := 0x21) rfl rfl
theorem TableRow.rlaIzx (z : Byte) : TableRow.Statement (.rlaIzx z) := of_opcode (o := 0x23) rfl rfl
theorem TableRow.bitZp (z : Byte) : TableRow.Statement (.bitZp z) := of_opcode (o := 0x24) rfl rfl
theorem TableRow.andZp (z : Byte) : TableRow.Statement (.andZp z) := of_opcode (o := 0x25) rfl rfl
theorem TableRow.rolZp (z : Byte) : TableRow.Statement (.rolZp z) := of_opcode (o := 0x26) rfl rfl
theorem TableRow.rlaZp (z : Byte) : TableRow.Statement (.rlaZp z) := of_opcode (o := 0x27) rfl rfl
theorem TableRow.andImm (v : Byte) : TableRow.Statement (.andImm v) := of_opcode (o := 0x29) rfl rfl
theorem TableRow.anc2B (v : Byte) : TableRow.Statement (.anc2B v) := of_opcode (o := 0x2B) rfl rfl
theorem TableRow.bitAbs (w : Addr) : TableRow.Statement (.bitAbs w) := of_opcode (o := 0x2C) rfl rfl
theorem TableRow.andAbs (w : Addr) : TableRow.Statement (.andAbs w) := of_opcode (o := 0x2D) rfl rfl
theorem TableRow.rolAbs (w : Addr) : TableRow.Statement (.rolAbs w) := of_opcode (o := 0x2E) rfl rfl
theorem TableRow.rlaAbs (w : Addr) : TableRow.Statement (.rlaAbs w) := of_opcode (o := 0x2F) rfl rfl
theorem TableRow.bmi (d : Byte) : TableRow.Statement (.bmi d) := of_opcode (o := 0x30) rfl rfl
theorem TableRow.andIzy (z : Byte) : TableRow.Statement (.andIzy z) := of_opcode (o := 0x31) rfl rfl
theorem TableRow.rlaIzy (z : Byte) : TableRow.Statement (.rlaIzy z) := of_opcode (o := 0x33) rfl rfl
theorem TableRow.nopZpx34 (z : Byte) : TableRow.Statement (.nopZpx34 z) := of_opcode (o := 0x34) rfl rfl
theorem TableRow.andZpx (z : Byte) : TableRow.Statement (.andZpx z) := of_opcode (o := 0x35) rfl rfl
theorem TableRow.rolZpx (z : Byte) : TableRow.Statement (.rolZpx z) := of_opcode (o := 0x36) rfl rfl
theorem TableRow.rlaZpx (z : Byte) : TableRow.Statement (.rlaZpx z) := of_opcode (o := 0x37) rfl rfl
theorem TableRow.andAby (w : Addr) : TableRow.Statement (.andAby w) := of_opcode (o := 0x39) rfl rfl
theorem TableRow.rlaAby (w : Addr) : TableRow.Statement (.rlaAby w) := of_opcode (o := 0x3B) rfl rfl
theorem TableRow.nopAbx3C (w : Addr) : TableRow.Statement (.nopAbx3C w) := of_opcode (o := 0x3C) rfl rfl
theorem TableRow.andAbx (w : Addr) : TableRow.Statement (.andAbx w) := of_opcode (o := 0x3D) rfl rfl
theorem TableRow.rolAbx (w : Addr) : TableRow.Statement (.rolAbx w) := of_opcode (o := 0x3E) rfl rfl
theorem TableRow.rlaAbx (w : Addr) : TableRow.Statement (.rlaAbx w) := of_opcode (o := 0x3F) rfl rfl
theorem TableRow.eorIzx (z : Byte) : TableRow.Statement (.eorIzx z) := of_opcode (o := 0x41) rfl rfl
theorem TableRow.sreIzx (z : Byte) : TableRow.Statement (.sreIzx z) := of_opcode (o := 0x43) rfl rfl
theorem TableRow.nopZp44 (z : Byte) : TableRow.Statement (.nopZp44 z) := of_opcode (o := 0x44) rfl rfl
theorem TableRow.eorZp (z : Byte) : TableRow.Statement (.eorZp z) := of_opcode (o := 0x45) rfl rfl
theorem TableRow.lsrZp (z : Byte) : TableRow.Statement (.lsrZp z) := of_opcode (o := 0x46) rfl rfl
theorem TableRow.sreZp (z : Byte) : TableRow.Statement (.sreZp z) := of_opcode (o := 0x47) rfl rfl
theorem TableRow.eorImm (v : Byte) : TableRow.Statement (.eorImm v) := of_opcode (o := 0x49) rfl rfl
theorem TableRow.alr (v : Byte) : TableRow.Statement (.alr v) := of_opcode (o := 0x4B) rfl rfl
theorem TableRow.jmpAbs (w : Addr) : TableRow.Statement (.jmpAbs w) := of_opcode (o := 0x4C) rfl rfl
theorem TableRow.eorAbs (w : Addr) : TableRow.Statement (.eorAbs w) := of_opcode (o := 0x4D) rfl rfl
theorem TableRow.lsrAbs (w : Addr) : TableRow.Statement (.lsrAbs w) := of_opcode (o := 0x4E) rfl rfl
theorem TableRow.sreAbs (w : Addr) : TableRow.Statement (.sreAbs w) := of_opcode (o := 0x4F) rfl rfl
theorem TableRow.bvc (d : Byte) : TableRow.Statement (.bvc d) := of_opcode (o := 0x50) rfl rfl
theorem TableRow.eorIzy (z : Byte) : TableRow.Statement (.eorIzy z) := of_opcode (o := 0x51) rfl rfl
theorem TableRow.sreIzy (z : Byte) : TableRow.Statement (.sreIzy z) := of_opcode (o := 0x53) rfl rfl
theorem TableRow.nopZpx54 (z : Byte) : TableRow.Statement (.nopZpx54 z) := of_opcode (o := 0x54) rfl rfl
theorem TableRow.eorZpx (z : Byte) : TableRow.Statement (.eorZpx z) := of_opcode (o := 0x55) rfl rfl
theorem TableRow.lsrZpx (z : Byte) : TableRow.Statement (.lsrZpx z) := of_opcode (o := 0x56) rfl rfl
theorem TableRow.sreZpx (z : Byte) : TableRow.Statement (.sreZpx z) := of_opcode (o := 0x57) rfl rfl
theorem TableRow.eorAby (w : Addr) : TableRow.Statement (.eorAby w) := of_opcode (o := 0x59) rfl rfl
theorem TableRow.sreAby (w : Addr) : TableRow.Statement (.sreAby w) := of_opcode (o := 0x5B) rfl rfl
theorem TableRow.nopAbx5C (w : Addr) : TableRow.Statement (.nopAbx5C w) := of_opcode (o := 0x5C) rfl rfl
theorem TableRow.eorAbx (w : Addr) : TableRow.Statement (.eorAbx w) := of_opcode (o := 0x5D) rfl rfl
theorem TableRow.lsrAbx (w : Addr) : TableRow.Statement (.lsrAbx w) := of_opcode (o := 0x5E) rfl rfl
theorem TableRow.sreAbx (w : Addr) : TableRow.Statement (.sreAbx w) := of_opcode (o := 0x5F) rfl rfl
theorem TableRow.adcIzx (z : Byte) : TableRow.Statement (.adcIzx z) := of_opcode (o := 0x61) rfl rfl
theorem TableRow.rraIzx (z : Byte) : TableRow.Statement (.rraIzx z) := of_opcode (o := 0x63) rfl rfl
theorem TableRow.nopZp64 (z : Byte) : TableRow.Statement (.nopZp64 z) := of_opcode (o := 0x64) rfl rfl
theorem TableRow.adcZp (z : Byte) : TableRow.Statement (.adcZp z) := of_opcode (o := 0x65) rfl rfl
theorem TableRow.rorZp (z : Byte) : TableRow.Statement (.rorZp z) := of_opcode (o := 0x66) rfl rfl
theorem TableRow.rraZp (z : Byte) : TableRow.Statement (.rraZp z) := of_opcode (o := 0x67) rfl rfl
theorem TableRow.adcImm (v : Byte) : TableRow.Statement (.adcImm v) := of_opcode (o := 0x69) rfl rfl
theorem TableRow.arr (v : Byte) : TableRow.Statement (.arr v) := of_opcode (o := 0x6B) rfl rfl
theorem TableRow.jmpInd (w : Addr) : TableRow.Statement (.jmpInd w) := of_opcode (o := 0x6C) rfl rfl
theorem TableRow.adcAbs (w : Addr) : TableRow.Statement (.adcAbs w) := of_opcode (o := 0x6D) rfl rfl
theorem TableRow.rorAbs (w : Addr) : TableRow.Statement (.rorAbs w) := of_opcode (o := 0x6E) rfl rfl
theorem TableRow.rraAbs (w : Addr) : TableRow.Statement (.rraAbs w) := of_opcode (o := 0x6F) rfl rfl
theorem TableRow.bvs (d : Byte) : TableRow.Statement (.bvs d) := of_opcode (o := 0x70) rfl rfl
theorem TableRow.adcIzy (z : Byte) : TableRow.Statement (.adcIzy z) := of_opcode (o := 0x71) rfl rfl
theorem TableRow.rraIzy (z : Byte) : TableRow.Statement (.rraIzy z) := of_opcode (o := 0x73) rfl rfl
theorem TableRow.nopZpx74 (z : Byte) : TableRow.Statement (.nopZpx74 z) := of_opcode (o := 0x74) rfl rfl
theorem TableRow.adcZpx (z : Byte) : TableRow.Statement (.adcZpx z) := of_opcode (o := 0x75) rfl rfl
theorem TableRow.rorZpx (z : Byte) : TableRow.Statement (.rorZpx z) := of_opcode (o := 0x76) rfl rfl
theorem TableRow.rraZpx (z : Byte) : TableRow.Statement (.rraZpx z) := of_opcode (o := 0x77) rfl rfl
theorem TableRow.adcAby (w : Addr) : TableRow.Statement (.adcAby w) := of_opcode (o := 0x79) rfl rfl
theorem TableRow.rraAby (w : Addr) : TableRow.Statement (.rraAby w) := of_opcode (o := 0x7B) rfl rfl
theorem TableRow.nopAbx7C (w : Addr) : TableRow.Statement (.nopAbx7C w) := of_opcode (o := 0x7C) rfl rfl
theorem TableRow.adcAbx (w : Addr) : TableRow.Statement (.adcAbx w) := of_opcode (o := 0x7D) rfl rfl
theorem TableRow.rorAbx (w : Addr) : TableRow.Statement (.rorAbx w) := of_opcode (o := 0x7E) rfl rfl
theorem TableRow.rraAbx (w : Addr) : TableRow.Statement (.rraAbx w) := of_opcode (o := 0x7F) rfl rfl
theorem TableRow.nopImm80 (v : Byte) : TableRow.Statement (.nopImm80 v) := of_opcode (o := 0x80) rfl rfl
theorem TableRow.staIzx (z : Byte) : TableRow.Statement (.staIzx z) := of_opcode (o := 0x81) rfl rfl
theorem TableRow.nopImm82 (v : Byte) : TableRow.Statement (.nopImm82 v) := of_opcode (o := 0x82) rfl rfl
theorem TableRow.saxIzx (z : Byte) : TableRow.Statement (.saxIzx z) := of_opcode (o := 0x83) rfl rfl
theorem TableRow.styZp (z : Byte) : TableRow.Statement (.styZp z) := of_opcode (o := 0x84) rfl rfl
theorem TableRow.staZp (z : Byte) : TableRow.Statement (.staZp z) := of_opcode (o := 0x85) rfl rfl
theorem TableRow.stxZp (z : Byte) : TableRow.Statement (.stxZp z) := of_opcode (o := 0x86) rfl rfl
theorem TableRow.saxZp (z : Byte) : TableRow.Statement (.saxZp z) := of_opcode (o := 0x87) rfl rfl
theorem TableRow.nopImm89 (v : Byte) : TableRow.Statement (.nopImm89 v) := of_opcode (o := 0x89) rfl rfl
theorem TableRow.ane (v : Byte) : TableRow.Statement (.ane v) := of_opcode (o := 0x8B) rfl rfl
theorem TableRow.styAbs (w : Addr) : TableRow.Statement (.styAbs w) := of_opcode (o := 0x8C) rfl rfl
theorem TableRow.staAbs (w : Addr) : TableRow.Statement (.staAbs w) := of_opcode (o := 0x8D) rfl rfl
theorem TableRow.stxAbs (w : Addr) : TableRow.Statement (.stxAbs w) := of_opcode (o := 0x8E) rfl rfl
theorem TableRow.saxAbs (w : Addr) : TableRow.Statement (.saxAbs w) := of_opcode (o := 0x8F) rfl rfl
theorem TableRow.bcc (d : Byte) : TableRow.Statement (.bcc d) := of_opcode (o := 0x90) rfl rfl
theorem TableRow.staIzy (z : Byte) : TableRow.Statement (.staIzy z) := of_opcode (o := 0x91) rfl rfl
theorem TableRow.shaIzy (z : Byte) : TableRow.Statement (.shaIzy z) := of_opcode (o := 0x93) rfl rfl
theorem TableRow.styZpx (z : Byte) : TableRow.Statement (.styZpx z) := of_opcode (o := 0x94) rfl rfl
theorem TableRow.staZpx (z : Byte) : TableRow.Statement (.staZpx z) := of_opcode (o := 0x95) rfl rfl
theorem TableRow.stxZpy (z : Byte) : TableRow.Statement (.stxZpy z) := of_opcode (o := 0x96) rfl rfl
theorem TableRow.saxZpy (z : Byte) : TableRow.Statement (.saxZpy z) := of_opcode (o := 0x97) rfl rfl
theorem TableRow.staAby (w : Addr) : TableRow.Statement (.staAby w) := of_opcode (o := 0x99) rfl rfl
theorem TableRow.tas (w : Addr) : TableRow.Statement (.tas w) := of_opcode (o := 0x9B) rfl rfl
theorem TableRow.shy (w : Addr) : TableRow.Statement (.shy w) := of_opcode (o := 0x9C) rfl rfl
theorem TableRow.staAbx (w : Addr) : TableRow.Statement (.staAbx w) := of_opcode (o := 0x9D) rfl rfl
theorem TableRow.shx (w : Addr) : TableRow.Statement (.shx w) := of_opcode (o := 0x9E) rfl rfl
theorem TableRow.shaAby (w : Addr) : TableRow.Statement (.shaAby w) := of_opcode (o := 0x9F) rfl rfl
theorem TableRow.ldyImm (v : Byte) : TableRow.Statement (.ldyImm v) := of_opcode (o := 0xA0) rfl rfl
theorem TableRow.ldaIzx (z : Byte) : TableRow.Statement (.ldaIzx z) := of_opcode (o := 0xA1) rfl rfl
theorem TableRow.ldxImm (v : Byte) : TableRow.Statement (.ldxImm v) := of_opcode (o := 0xA2) rfl rfl
theorem TableRow.laxIzx (z : Byte) : TableRow.Statement (.laxIzx z) := of_opcode (o := 0xA3) rfl rfl
theorem TableRow.ldyZp (z : Byte) : TableRow.Statement (.ldyZp z) := of_opcode (o := 0xA4) rfl rfl
theorem TableRow.ldaZp (z : Byte) : TableRow.Statement (.ldaZp z) := of_opcode (o := 0xA5) rfl rfl
theorem TableRow.ldxZp (z : Byte) : TableRow.Statement (.ldxZp z) := of_opcode (o := 0xA6) rfl rfl
theorem TableRow.laxZp (z : Byte) : TableRow.Statement (.laxZp z) := of_opcode (o := 0xA7) rfl rfl
theorem TableRow.ldaImm (v : Byte) : TableRow.Statement (.ldaImm v) := of_opcode (o := 0xA9) rfl rfl
theorem TableRow.lxa (v : Byte) : TableRow.Statement (.lxa v) := of_opcode (o := 0xAB) rfl rfl
theorem TableRow.ldyAbs (w : Addr) : TableRow.Statement (.ldyAbs w) := of_opcode (o := 0xAC) rfl rfl
theorem TableRow.ldaAbs (w : Addr) : TableRow.Statement (.ldaAbs w) := of_opcode (o := 0xAD) rfl rfl
theorem TableRow.ldxAbs (w : Addr) : TableRow.Statement (.ldxAbs w) := of_opcode (o := 0xAE) rfl rfl
theorem TableRow.laxAbs (w : Addr) : TableRow.Statement (.laxAbs w) := of_opcode (o := 0xAF) rfl rfl
theorem TableRow.bcs (d : Byte) : TableRow.Statement (.bcs d) := of_opcode (o := 0xB0) rfl rfl
theorem TableRow.ldaIzy (z : Byte) : TableRow.Statement (.ldaIzy z) := of_opcode (o := 0xB1) rfl rfl
theorem TableRow.laxIzy (z : Byte) : TableRow.Statement (.laxIzy z) := of_opcode (o := 0xB3) rfl rfl
theorem TableRow.ldyZpx (z : Byte) : TableRow.Statement (.ldyZpx z) := of_opcode (o := 0xB4) rfl rfl
theorem TableRow.ldaZpx (z : Byte) : TableRow.Statement (.ldaZpx z) := of_opcode (o := 0xB5) rfl rfl
theorem TableRow.ldxZpy (z : Byte) : TableRow.Statement (.ldxZpy z) := of_opcode (o := 0xB6) rfl rfl
theorem TableRow.laxZpy (z : Byte) : TableRow.Statement (.laxZpy z) := of_opcode (o := 0xB7) rfl rfl
theorem TableRow.ldaAby (w : Addr) : TableRow.Statement (.ldaAby w) := of_opcode (o := 0xB9) rfl rfl
theorem TableRow.las (w : Addr) : TableRow.Statement (.las w) := of_opcode (o := 0xBB) rfl rfl
theorem TableRow.ldyAbx (w : Addr) : TableRow.Statement (.ldyAbx w) := of_opcode (o := 0xBC) rfl rfl
theorem TableRow.ldaAbx (w : Addr) : TableRow.Statement (.ldaAbx w) := of_opcode (o := 0xBD) rfl rfl
theorem TableRow.ldxAby (w : Addr) : TableRow.Statement (.ldxAby w) := of_opcode (o := 0xBE) rfl rfl
theorem TableRow.laxAby (w : Addr) : TableRow.Statement (.laxAby w) := of_opcode (o := 0xBF) rfl rfl
theorem TableRow.cpyImm (v : Byte) : TableRow.Statement (.cpyImm v) := of_opcode (o := 0xC0) rfl rfl
theorem TableRow.cmpIzx (z : Byte) : TableRow.Statement (.cmpIzx z) := of_opcode (o := 0xC1) rfl rfl
theorem TableRow.nopImmC2 (v : Byte) : TableRow.Statement (.nopImmC2 v) := of_opcode (o := 0xC2) rfl rfl
theorem TableRow.dcpIzx (z : Byte) : TableRow.Statement (.dcpIzx z) := of_opcode (o := 0xC3) rfl rfl
theorem TableRow.cpyZp (z : Byte) : TableRow.Statement (.cpyZp z) := of_opcode (o := 0xC4) rfl rfl
theorem TableRow.cmpZp (z : Byte) : TableRow.Statement (.cmpZp z) := of_opcode (o := 0xC5) rfl rfl
theorem TableRow.decZp (z : Byte) : TableRow.Statement (.decZp z) := of_opcode (o := 0xC6) rfl rfl
theorem TableRow.dcpZp (z : Byte) : TableRow.Statement (.dcpZp z) := of_opcode (o := 0xC7) rfl rfl
theorem TableRow.cmpImm (v : Byte) : TableRow.Statement (.cmpImm v) := of_opcode (o := 0xC9) rfl rfl
theorem TableRow.sbx (v : Byte) : TableRow.Statement (.sbx v) := of_opcode (o := 0xCB) rfl rfl
theorem TableRow.cpyAbs (w : Addr) : TableRow.Statement (.cpyAbs w) := of_opcode (o := 0xCC) rfl rfl
theorem TableRow.cmpAbs (w : Addr) : TableRow.Statement (.cmpAbs w) := of_opcode (o := 0xCD) rfl rfl
theorem TableRow.decAbs (w : Addr) : TableRow.Statement (.decAbs w) := of_opcode (o := 0xCE) rfl rfl
theorem TableRow.dcpAbs (w : Addr) : TableRow.Statement (.dcpAbs w) := of_opcode (o := 0xCF) rfl rfl
theorem TableRow.bne (d : Byte) : TableRow.Statement (.bne d) := of_opcode (o := 0xD0) rfl rfl
theorem TableRow.cmpIzy (z : Byte) : TableRow.Statement (.cmpIzy z) := of_opcode (o := 0xD1) rfl rfl
theorem TableRow.dcpIzy (z : Byte) : TableRow.Statement (.dcpIzy z) := of_opcode (o := 0xD3) rfl rfl
theorem TableRow.nopZpxD4 (z : Byte) : TableRow.Statement (.nopZpxD4 z) := of_opcode (o := 0xD4) rfl rfl
theorem TableRow.cmpZpx (z : Byte) : TableRow.Statement (.cmpZpx z) := of_opcode (o := 0xD5) rfl rfl
theorem TableRow.decZpx (z : Byte) : TableRow.Statement (.decZpx z) := of_opcode (o := 0xD6) rfl rfl
theorem TableRow.dcpZpx (z : Byte) : TableRow.Statement (.dcpZpx z) := of_opcode (o := 0xD7) rfl rfl
theorem TableRow.cmpAby (w : Addr) : TableRow.Statement (.cmpAby w) := of_opcode (o := 0xD9) rfl rfl
theorem TableRow.dcpAby (w : Addr) : TableRow.Statement (.dcpAby w) := of_opcode (o := 0xDB) rfl rfl
theorem TableRow.nopAbxDC (w : Addr) : TableRow.Statement (.nopAbxDC w) := of_opcode (o := 0xDC) rfl rfl
theorem TableRow.cmpAbx (w : Addr) : TableRow.Statement (.cmpAbx w) := of_opcode (o := 0xDD) rfl rfl
theorem TableRow.decAbx (w : Addr) : TableRow.Statement (.decAbx w) := of_opcode (o := 0xDE) rfl rfl
theorem TableRow.dcpAbx (w : Addr) : TableRow.Statement (.dcpAbx w) := of_opcode (o := 0xDF) rfl rfl
theorem TableRow.cpxImm (v : Byte) : TableRow.Statement (.cpxImm v) := of_opcode (o := 0xE0) rfl rfl
theorem TableRow.sbcIzx (z : Byte) : TableRow.Statement (.sbcIzx z) := of_opcode (o := 0xE1) rfl rfl
theorem TableRow.nopImmE2 (v : Byte) : TableRow.Statement (.nopImmE2 v) := of_opcode (o := 0xE2) rfl rfl
theorem TableRow.iscIzx (z : Byte) : TableRow.Statement (.iscIzx z) := of_opcode (o := 0xE3) rfl rfl
theorem TableRow.cpxZp (z : Byte) : TableRow.Statement (.cpxZp z) := of_opcode (o := 0xE4) rfl rfl
theorem TableRow.sbcZp (z : Byte) : TableRow.Statement (.sbcZp z) := of_opcode (o := 0xE5) rfl rfl
theorem TableRow.incZp (z : Byte) : TableRow.Statement (.incZp z) := of_opcode (o := 0xE6) rfl rfl
theorem TableRow.iscZp (z : Byte) : TableRow.Statement (.iscZp z) := of_opcode (o := 0xE7) rfl rfl
theorem TableRow.sbcImm (v : Byte) : TableRow.Statement (.sbcImm v) := of_opcode (o := 0xE9) rfl rfl
theorem TableRow.usbc (v : Byte) : TableRow.Statement (.usbc v) := of_opcode (o := 0xEB) rfl rfl
theorem TableRow.cpxAbs (w : Addr) : TableRow.Statement (.cpxAbs w) := of_opcode (o := 0xEC) rfl rfl
theorem TableRow.sbcAbs (w : Addr) : TableRow.Statement (.sbcAbs w) := of_opcode (o := 0xED) rfl rfl
theorem TableRow.incAbs (w : Addr) : TableRow.Statement (.incAbs w) := of_opcode (o := 0xEE) rfl rfl
theorem TableRow.iscAbs (w : Addr) : TableRow.Statement (.iscAbs w) := of_opcode (o := 0xEF) rfl rfl
theorem TableRow.beq (d : Byte) : TableRow.Statement (.beq d) := of_opcode (o := 0xF0) rfl rfl
theorem TableRow.sbcIzy (z : Byte) : TableRow.Statement (.sbcIzy z) := of_opcode (o := 0xF1) rfl rfl
theorem TableRow.iscIzy (z : Byte) : TableRow.Statement (.iscIzy z) := of_opcode (o := 0xF3) rfl rfl
theorem TableRow.nopZpxF4 (z : Byte) : TableRow.Statement (.nopZpxF4 z) := of_opcode (o := 0xF4) rfl rfl
theorem TableRow.sbcZpx (z : Byte) : TableRow.Statement (.sbcZpx z) := of_opcode (o := 0xF5) rfl rfl
theorem TableRow.incZpx (z : Byte) : TableRow.Statement (.incZpx z) := of_opcode (o := 0xF6) rfl rfl
theorem TableRow.iscZpx (z : Byte) : TableRow.Statement (.iscZpx z) := of_opcode (o := 0xF7) rfl rfl
theorem TableRow.sbcAby (w : Addr) : TableRow.Statement (.sbcAby w) := of_opcode (o := 0xF9) rfl rfl
theorem TableRow.iscAby (w : Addr) : TableRow.Statement (.iscAby w) := of_opcode (o := 0xFB) rfl rfl
theorem TableRow.nopAbxFC (w : Addr) : TableRow.Statement (.nopAbxFC w) := of_opcode (o := 0xFC) rfl rfl
theorem TableRow.sbcAbx (w : Addr) : TableRow.Statement (.sbcAbx w) := of_opcode (o := 0xFD) rfl rfl
theorem TableRow.incAbx (w : Addr) : TableRow.Statement (.incAbx w) := of_opcode (o := 0xFE) rfl rfl
theorem TableRow.iscAbx (w : Addr) : TableRow.Statement (.iscAbx w) := of_opcode (o := 0xFF) rfl rfl
theorem TableRow.brk : TableRow.Statement (.brk) := of_opcode (o := 0x00) rfl rfl
theorem TableRow.jam02 : TableRow.Statement (.jam02) := of_opcode (o := 0x02) rfl rfl
theorem TableRow.php : TableRow.Statement (.php) := of_opcode (o := 0x08) rfl rfl
theorem TableRow.aslAcc : TableRow.Statement (.aslAcc) := of_opcode (o := 0x0A) rfl rfl
theorem TableRow.jam12 : TableRow.Statement (.jam12) := of_opcode (o := 0x12) rfl rfl
theorem TableRow.clc : TableRow.Statement (.clc) := of_opcode (o := 0x18) rfl rfl
theorem TableRow.nopImp1A : TableRow.Statement (.nopImp1A) := of_opcode (o := 0x1A) rfl rfl
theorem TableRow.jam22 : TableRow.Statement (.jam22) := of_opcode (o := 0x22) rfl rfl
theorem TableRow.plp : TableRow.Statement (.plp) := of_opcode (o := 0x28) rfl rfl
theorem TableRow.rolAcc : TableRow.Statement (.rolAcc) := of_opcode (o := 0x2A) rfl rfl
theorem TableRow.jam32 : TableRow.Statement (.jam32) := of_opcode (o := 0x32) rfl rfl
theorem TableRow.sec : TableRow.Statement (.sec) := of_opcode (o := 0x38) rfl rfl
theorem TableRow.nopImp3A : TableRow.Statement (.nopImp3A) := of_opcode (o := 0x3A) rfl rfl
theorem TableRow.rti : TableRow.Statement (.rti) := of_opcode (o := 0x40) rfl rfl
theorem TableRow.jam42 : TableRow.Statement (.jam42) := of_opcode (o := 0x42) rfl rfl
theorem TableRow.pha : TableRow.Statement (.pha) := of_opcode (o := 0x48) rfl rfl
theorem TableRow.lsrAcc : TableRow.Statement (.lsrAcc) := of_opcode (o := 0x4A) rfl rfl
theorem TableRow.jam52 : TableRow.Statement (.jam52) := of_opcode (o := 0x52) rfl rfl
theorem TableRow.cli : TableRow.Statement (.cli) := of_opcode (o := 0x58) rfl rfl
theorem TableRow.nopImp5A : TableRow.Statement (.nopImp5A) := of_opcode (o := 0x5A) rfl rfl
theorem TableRow.rts : TableRow.Statement (.rts) := of_opcode (o := 0x60) rfl rfl
theorem TableRow.jam62 : TableRow.Statement (.jam62) := of_opcode (o := 0x62) rfl rfl
theorem TableRow.pla : TableRow.Statement (.pla) := of_opcode (o := 0x68) rfl rfl
theorem TableRow.rorAcc : TableRow.Statement (.rorAcc) := of_opcode (o := 0x6A) rfl rfl
theorem TableRow.jam72 : TableRow.Statement (.jam72) := of_opcode (o := 0x72) rfl rfl
theorem TableRow.sei : TableRow.Statement (.sei) := of_opcode (o := 0x78) rfl rfl
theorem TableRow.nopImp7A : TableRow.Statement (.nopImp7A) := of_opcode (o := 0x7A) rfl rfl
theorem TableRow.dey : TableRow.Statement (.dey) := of_opcode (o := 0x88) rfl rfl
theorem TableRow.txa : TableRow.Statement (.txa) := of_opcode (o := 0x8A) rfl rfl
theorem TableRow.jam92 : TableRow.Statement (.jam92) := of_opcode (o := 0x92) rfl rfl
theorem TableRow.tya : TableRow.Statement (.tya) := of_opcode (o := 0x98) rfl rfl
theorem TableRow.txs : TableRow.Statement (.txs) := of_opcode (o := 0x9A) rfl rfl
theorem TableRow.tay : TableRow.Statement (.tay) := of_opcode (o := 0xA8) rfl rfl
theorem TableRow.tax : TableRow.Statement (.tax) := of_opcode (o := 0xAA) rfl rfl
theorem TableRow.jamB2 : TableRow.Statement (.jamB2) := of_opcode (o := 0xB2) rfl rfl
theorem TableRow.clv : TableRow.Statement (.clv) := of_opcode (o := 0xB8) rfl rfl
theorem TableRow.tsx : TableRow.Statement (.tsx) := of_opcode (o := 0xBA) rfl rfl
theorem TableRow.iny : TableRow.Statement (.iny) := of_opcode (o := 0xC8) rfl rfl
theorem TableRow.dex : TableRow.Statement (.dex) := of_opcode (o := 0xCA) rfl rfl
theorem TableRow.jamD2 : TableRow.Statement (.jamD2) := of_opcode (o := 0xD2) rfl rfl
theorem TableRow.cld : TableRow.Statement (.cld) := of_opcode (o := 0xD8) rfl rfl
theorem TableRow.nopImpDA : TableRow.Statement (.nopImpDA) := of_opcode (o := 0xDA) rfl rfl
theorem TableRow.inx : TableRow.Statement (.inx) := of_opcode (o := 0xE8) rfl rfl
theorem TableRow.nop : TableRow.Statement (.nop) := of_opcode (o := 0xEA) rfl rfl
theorem TableRow.jamF2 : TableRow.Statement (.jamF2) := of_opcode (o := 0xF2) rfl rfl
theorem TableRow.sed : TableRow.Statement (.sed) := of_opcode (o := 0xF8) rfl rfl
theorem TableRow.nopImpFA : TableRow.Statement (.nopImpFA) := of_opcode (o := 0xFA) rfl rfl

/-- Every instruction agrees with its table row. -/
theorem tableRow (i : Instr) : TableRow.Statement i :=
  match i with
  | .oraIzx z => TableRow.oraIzx z
  | .sloIzx z => TableRow.sloIzx z
  | .nopZp04 z => TableRow.nopZp04 z
  | .oraZp z => TableRow.oraZp z
  | .aslZp z => TableRow.aslZp z
  | .sloZp z => TableRow.sloZp z
  | .oraImm v => TableRow.oraImm v
  | .anc0B v => TableRow.anc0B v
  | .nopAbs0C w => TableRow.nopAbs0C w
  | .oraAbs w => TableRow.oraAbs w
  | .aslAbs w => TableRow.aslAbs w
  | .sloAbs w => TableRow.sloAbs w
  | .bpl d => TableRow.bpl d
  | .oraIzy z => TableRow.oraIzy z
  | .sloIzy z => TableRow.sloIzy z
  | .nopZpx14 z => TableRow.nopZpx14 z
  | .oraZpx z => TableRow.oraZpx z
  | .aslZpx z => TableRow.aslZpx z
  | .sloZpx z => TableRow.sloZpx z
  | .oraAby w => TableRow.oraAby w
  | .sloAby w => TableRow.sloAby w
  | .nopAbx1C w => TableRow.nopAbx1C w
  | .oraAbx w => TableRow.oraAbx w
  | .aslAbx w => TableRow.aslAbx w
  | .sloAbx w => TableRow.sloAbx w
  | .jsr w => TableRow.jsr w
  | .andIzx z => TableRow.andIzx z
  | .rlaIzx z => TableRow.rlaIzx z
  | .bitZp z => TableRow.bitZp z
  | .andZp z => TableRow.andZp z
  | .rolZp z => TableRow.rolZp z
  | .rlaZp z => TableRow.rlaZp z
  | .andImm v => TableRow.andImm v
  | .anc2B v => TableRow.anc2B v
  | .bitAbs w => TableRow.bitAbs w
  | .andAbs w => TableRow.andAbs w
  | .rolAbs w => TableRow.rolAbs w
  | .rlaAbs w => TableRow.rlaAbs w
  | .bmi d => TableRow.bmi d
  | .andIzy z => TableRow.andIzy z
  | .rlaIzy z => TableRow.rlaIzy z
  | .nopZpx34 z => TableRow.nopZpx34 z
  | .andZpx z => TableRow.andZpx z
  | .rolZpx z => TableRow.rolZpx z
  | .rlaZpx z => TableRow.rlaZpx z
  | .andAby w => TableRow.andAby w
  | .rlaAby w => TableRow.rlaAby w
  | .nopAbx3C w => TableRow.nopAbx3C w
  | .andAbx w => TableRow.andAbx w
  | .rolAbx w => TableRow.rolAbx w
  | .rlaAbx w => TableRow.rlaAbx w
  | .eorIzx z => TableRow.eorIzx z
  | .sreIzx z => TableRow.sreIzx z
  | .nopZp44 z => TableRow.nopZp44 z
  | .eorZp z => TableRow.eorZp z
  | .lsrZp z => TableRow.lsrZp z
  | .sreZp z => TableRow.sreZp z
  | .eorImm v => TableRow.eorImm v
  | .alr v => TableRow.alr v
  | .jmpAbs w => TableRow.jmpAbs w
  | .eorAbs w => TableRow.eorAbs w
  | .lsrAbs w => TableRow.lsrAbs w
  | .sreAbs w => TableRow.sreAbs w
  | .bvc d => TableRow.bvc d
  | .eorIzy z => TableRow.eorIzy z
  | .sreIzy z => TableRow.sreIzy z
  | .nopZpx54 z => TableRow.nopZpx54 z
  | .eorZpx z => TableRow.eorZpx z
  | .lsrZpx z => TableRow.lsrZpx z
  | .sreZpx z => TableRow.sreZpx z
  | .eorAby w => TableRow.eorAby w
  | .sreAby w => TableRow.sreAby w
  | .nopAbx5C w => TableRow.nopAbx5C w
  | .eorAbx w => TableRow.eorAbx w
  | .lsrAbx w => TableRow.lsrAbx w
  | .sreAbx w => TableRow.sreAbx w
  | .adcIzx z => TableRow.adcIzx z
  | .rraIzx z => TableRow.rraIzx z
  | .nopZp64 z => TableRow.nopZp64 z
  | .adcZp z => TableRow.adcZp z
  | .rorZp z => TableRow.rorZp z
  | .rraZp z => TableRow.rraZp z
  | .adcImm v => TableRow.adcImm v
  | .arr v => TableRow.arr v
  | .jmpInd w => TableRow.jmpInd w
  | .adcAbs w => TableRow.adcAbs w
  | .rorAbs w => TableRow.rorAbs w
  | .rraAbs w => TableRow.rraAbs w
  | .bvs d => TableRow.bvs d
  | .adcIzy z => TableRow.adcIzy z
  | .rraIzy z => TableRow.rraIzy z
  | .nopZpx74 z => TableRow.nopZpx74 z
  | .adcZpx z => TableRow.adcZpx z
  | .rorZpx z => TableRow.rorZpx z
  | .rraZpx z => TableRow.rraZpx z
  | .adcAby w => TableRow.adcAby w
  | .rraAby w => TableRow.rraAby w
  | .nopAbx7C w => TableRow.nopAbx7C w
  | .adcAbx w => TableRow.adcAbx w
  | .rorAbx w => TableRow.rorAbx w
  | .rraAbx w => TableRow.rraAbx w
  | .nopImm80 v => TableRow.nopImm80 v
  | .staIzx z => TableRow.staIzx z
  | .nopImm82 v => TableRow.nopImm82 v
  | .saxIzx z => TableRow.saxIzx z
  | .styZp z => TableRow.styZp z
  | .staZp z => TableRow.staZp z
  | .stxZp z => TableRow.stxZp z
  | .saxZp z => TableRow.saxZp z
  | .nopImm89 v => TableRow.nopImm89 v
  | .ane v => TableRow.ane v
  | .styAbs w => TableRow.styAbs w
  | .staAbs w => TableRow.staAbs w
  | .stxAbs w => TableRow.stxAbs w
  | .saxAbs w => TableRow.saxAbs w
  | .bcc d => TableRow.bcc d
  | .staIzy z => TableRow.staIzy z
  | .shaIzy z => TableRow.shaIzy z
  | .styZpx z => TableRow.styZpx z
  | .staZpx z => TableRow.staZpx z
  | .stxZpy z => TableRow.stxZpy z
  | .saxZpy z => TableRow.saxZpy z
  | .staAby w => TableRow.staAby w
  | .tas w => TableRow.tas w
  | .shy w => TableRow.shy w
  | .staAbx w => TableRow.staAbx w
  | .shx w => TableRow.shx w
  | .shaAby w => TableRow.shaAby w
  | .ldyImm v => TableRow.ldyImm v
  | .ldaIzx z => TableRow.ldaIzx z
  | .ldxImm v => TableRow.ldxImm v
  | .laxIzx z => TableRow.laxIzx z
  | .ldyZp z => TableRow.ldyZp z
  | .ldaZp z => TableRow.ldaZp z
  | .ldxZp z => TableRow.ldxZp z
  | .laxZp z => TableRow.laxZp z
  | .ldaImm v => TableRow.ldaImm v
  | .lxa v => TableRow.lxa v
  | .ldyAbs w => TableRow.ldyAbs w
  | .ldaAbs w => TableRow.ldaAbs w
  | .ldxAbs w => TableRow.ldxAbs w
  | .laxAbs w => TableRow.laxAbs w
  | .bcs d => TableRow.bcs d
  | .ldaIzy z => TableRow.ldaIzy z
  | .laxIzy z => TableRow.laxIzy z
  | .ldyZpx z => TableRow.ldyZpx z
  | .ldaZpx z => TableRow.ldaZpx z
  | .ldxZpy z => TableRow.ldxZpy z
  | .laxZpy z => TableRow.laxZpy z
  | .ldaAby w => TableRow.ldaAby w
  | .las w => TableRow.las w
  | .ldyAbx w => TableRow.ldyAbx w
  | .ldaAbx w => TableRow.ldaAbx w
  | .ldxAby w => TableRow.ldxAby w
  | .laxAby w => TableRow.laxAby w
  | .cpyImm v => TableRow.cpyImm v
  | .cmpIzx z => TableRow.cmpIzx z
  | .nopImmC2 v => TableRow.nopImmC2 v
  | .dcpIzx z => TableRow.dcpIzx z
  | .cpyZp z => TableRow.cpyZp z
  | .cmpZp z => TableRow.cmpZp z
  | .decZp z => TableRow.decZp z
  | .dcpZp z => TableRow.dcpZp z
  | .cmpImm v => TableRow.cmpImm v
  | .sbx v => TableRow.sbx v
  | .cpyAbs w => TableRow.cpyAbs w
  | .cmpAbs w => TableRow.cmpAbs w
  | .decAbs w => TableRow.decAbs w
  | .dcpAbs w => TableRow.dcpAbs w
  | .bne d => TableRow.bne d
  | .cmpIzy z => TableRow.cmpIzy z
  | .dcpIzy z => TableRow.dcpIzy z
  | .nopZpxD4 z => TableRow.nopZpxD4 z
  | .cmpZpx z => TableRow.cmpZpx z
  | .decZpx z => TableRow.decZpx z
  | .dcpZpx z => TableRow.dcpZpx z
  | .cmpAby w => TableRow.cmpAby w
  | .dcpAby w => TableRow.dcpAby w
  | .nopAbxDC w => TableRow.nopAbxDC w
  | .cmpAbx w => TableRow.cmpAbx w
  | .decAbx w => TableRow.decAbx w
  | .dcpAbx w => TableRow.dcpAbx w
  | .cpxImm v => TableRow.cpxImm v
  | .sbcIzx z => TableRow.sbcIzx z
  | .nopImmE2 v => TableRow.nopImmE2 v
  | .iscIzx z => TableRow.iscIzx z
  | .cpxZp z => TableRow.cpxZp z
  | .sbcZp z => TableRow.sbcZp z
  | .incZp z => TableRow.incZp z
  | .iscZp z => TableRow.iscZp z
  | .sbcImm v => TableRow.sbcImm v
  | .usbc v => TableRow.usbc v
  | .cpxAbs w => TableRow.cpxAbs w
  | .sbcAbs w => TableRow.sbcAbs w
  | .incAbs w => TableRow.incAbs w
  | .iscAbs w => TableRow.iscAbs w
  | .beq d => TableRow.beq d
  | .sbcIzy z => TableRow.sbcIzy z
  | .iscIzy z => TableRow.iscIzy z
  | .nopZpxF4 z => TableRow.nopZpxF4 z
  | .sbcZpx z => TableRow.sbcZpx z
  | .incZpx z => TableRow.incZpx z
  | .iscZpx z => TableRow.iscZpx z
  | .sbcAby w => TableRow.sbcAby w
  | .iscAby w => TableRow.iscAby w
  | .nopAbxFC w => TableRow.nopAbxFC w
  | .sbcAbx w => TableRow.sbcAbx w
  | .incAbx w => TableRow.incAbx w
  | .iscAbx w => TableRow.iscAbx w
  | .brk => TableRow.brk
  | .jam02 => TableRow.jam02
  | .php => TableRow.php
  | .aslAcc => TableRow.aslAcc
  | .jam12 => TableRow.jam12
  | .clc => TableRow.clc
  | .nopImp1A => TableRow.nopImp1A
  | .jam22 => TableRow.jam22
  | .plp => TableRow.plp
  | .rolAcc => TableRow.rolAcc
  | .jam32 => TableRow.jam32
  | .sec => TableRow.sec
  | .nopImp3A => TableRow.nopImp3A
  | .rti => TableRow.rti
  | .jam42 => TableRow.jam42
  | .pha => TableRow.pha
  | .lsrAcc => TableRow.lsrAcc
  | .jam52 => TableRow.jam52
  | .cli => TableRow.cli
  | .nopImp5A => TableRow.nopImp5A
  | .rts => TableRow.rts
  | .jam62 => TableRow.jam62
  | .pla => TableRow.pla
  | .rorAcc => TableRow.rorAcc
  | .jam72 => TableRow.jam72
  | .sei => TableRow.sei
  | .nopImp7A => TableRow.nopImp7A
  | .dey => TableRow.dey
  | .txa => TableRow.txa
  | .jam92 => TableRow.jam92
  | .tya => TableRow.tya
  | .txs => TableRow.txs
  | .tay => TableRow.tay
  | .tax => TableRow.tax
  | .jamB2 => TableRow.jamB2
  | .clv => TableRow.clv
  | .tsx => TableRow.tsx
  | .iny => TableRow.iny
  | .dex => TableRow.dex
  | .jamD2 => TableRow.jamD2
  | .cld => TableRow.cld
  | .nopImpDA => TableRow.nopImpDA
  | .inx => TableRow.inx
  | .nop => TableRow.nop
  | .jamF2 => TableRow.jamF2
  | .sed => TableRow.sed
  | .nopImpFA => TableRow.nopImpFA

theorem length_bytes (o : Operand) : o.bytes.length = o.mode.format.operandBytes := by
  rcases o with _ | _ | d | w | m <;> first | rfl | (cases m <;> rfl)

/-- The bytes of an instruction are as many as its table row says. -/
@[simp] theorem length_encode (i : Instr) : (encode i).length = i.length := by
  have row : i.operand.mode = i.entry.mode := tableRow i
  simp only [encode, List.length_cons, length_bytes, row, Instr.length, operandBytes, Instr.entry]
  omega

/-- Every instruction is well formed (log entry 18). -/
@[simp] theorem wellFormed (i : Instr) : i.wellFormed = true := by
  have h := length_encode i
  simp only [encode, List.length_cons, Instr.length] at h
  simp only [Instr.wellFormed, wellFormedBytes, encode, beq_iff_eq]
  omega

end Sys2Proof.Laws
end

