-- ==== Sys2Proof/Laws/Rules.lean ====
section
/-! SUPPORT. What each shared operation can do, said once: the stack page (spec/20_memory.md R57, R58), taking a trap and returning
from one (spec/60_exceptions.md R320, R323), the rules of the access classes (spec/40_addressing_modes.md R116 to R118), the
boundary check (R305) and the step (R300). -/

namespace Sys2Proof.Machine

/-! ### The stack page -/

theorem stackAddr_toNat (sp : Byte) : (stackAddr sp).toNat = 256 + sp.toNat := by
  rw [stackAddr, wordOf_toNat]
  rfl

@[simp] theorem stackAddr_inj {a b : Byte} : stackAddr a = stackAddr b ↔ a = b := by
  simp [stackAddr, wordOf_inj]

@[simp] theorem hiByte_stackAddr (sp : Byte) : hiByte (stackAddr sp) = 0x01 := hiByte_wordOf _ _

/-- A push and the bare write of its byte read the same. -/
@[simp] theorem State.readMem_push (s : State) (v : Byte) (a : Addr) :
    (s.push v).readMem a = (s.writeMem (stackAddr s.sp) v).readMem a := rfl

/-- A push where the stack page and the address read are plain memory. -/
theorem State.readMem_push_of_plain {s : State} (stack : ∀ k : Byte, s.bus.plainAt (stackAddr k)) {a : Addr}
    (plain : s.bus.plainAt a) (v : Byte) : (s.push v).readMem a = if a = stackAddr s.sp then v else s.readMem a :=
  State.readMem_writeMem_of_plain (stack _) plain v

@[simp] theorem State.readMem_setSp (s : State) (v : Byte) (a : Addr) : (s.setSp v).readMem a = s.readMem a := rfl
@[simp] theorem State.readMem_setFlags (s : State) (f : Flags) (a : Addr) : (s.setFlags f).readMem a = s.readMem a := rfl
@[simp] theorem State.readMem_pulled (s : State) (a : Addr) : s.pulled.readMem a = s.readMem a := rfl
@[simp] theorem State.readMem_retire (s : State) (n c : Nat) (a : Addr) : (s.retire n c).readMem a = s.readMem a := rfl
@[simp] theorem State.readMem_retireAt (s : State) (w : Addr) (c : Nat) (a : Addr) :
    (s.retireAt w c).readMem a = s.readMem a := rfl
@[simp] theorem State.readVector_setFlags (s : State) (f : Flags) (a : Addr) : (s.setFlags f).readVector a = s.readVector a := rfl

/-- The pushed status byte differs from the status byte in bits 5 and 4 only. -/
theorem pushedStatus_eq (f : Flags) (breakBit : Bool) :
    pushedStatus f breakBit = (f.toByte &&& 0xEF) ||| (if breakBit then 0x30 else 0x20) := by
  obtain ⟨n, v, b, d, i, z, c⟩ := f
  revert breakBit n v b d i z c
  decide

/-- Pulling a pushed status gives the flags back, the stored `B` from the flags it is pulled into. -/
@[simp] theorem Flags.pulled_pushedStatus (f g : Flags) (breakBit : Bool) :
    g.pulled (pushedStatus f breakBit) = { f with b := g.b } := by
  obtain ⟨n, v, b, d, i, z, c⟩ := f
  have h : ∀ n v d i z c breakBit, Flags.ofByte (pushedStatus ⟨n, v, b, d, i, z, c⟩ breakBit) = ⟨n, v, breakBit, d, i, z, c⟩ := by
    revert b
    decide
  simp only [Flags.pulled, h]

/-! ### Traps -/

/-- The host's bus after the three pushes of a trap frame. -/
def State.pushFrame (w : Addr) (status : Byte) (s : State) : State :=
  ((s.writeMem (stackAddr s.sp) (hiByte w)).writeMem (stackAddr (s.sp - 1)) (loByte w)).writeMem (stackAddr (s.sp - 1 - 1)) status

/-- All that taking a trap does: the three pushes, and then the vector is read. -/
theorem State.enterTrap_eq (s : State) (w : Addr) (breakBit : Bool) (vector : Addr) (label : StepLabel) :
    s.enterTrap w breakBit vector label = { s.pushFrame w (pushedStatus s.flags breakBit) with
      sp := s.sp - 1 - 1 - 1
      flags := { s.flags with i := true }
      pc := (s.pushFrame w (pushedStatus s.flags breakBit)).readVector vector
      cycles := 7
      outcome := label } := rfl

@[simp] theorem State.readMem_enterTrap (s : State) (w : Addr) (breakBit : Bool) (vector : Addr) (label : StepLabel) (a : Addr) :
    (s.enterTrap w breakBit vector label).readMem a = (s.pushFrame w (pushedStatus s.flags breakBit)).readMem a := rfl

theorem State.enterTrap_pc (s : State) (w : Addr) (breakBit : Bool) (vector : Addr) (label : StepLabel) :
    (s.enterTrap w breakBit vector label).pc = (s.pushFrame w (pushedStatus s.flags breakBit)).readVector vector := rfl

/-- Where the three bytes of a frame lie when the stack page is plain memory, and that every other plain byte is kept. -/
theorem State.readMem_pushFrame_of_plain {s : State} (stack : ∀ k : Byte, s.bus.plainAt (stackAddr k)) {a : Addr}
    (plain : s.bus.plainAt a) (w : Addr) (status : Byte) :
    (s.pushFrame w status).readMem a =
      if a = stackAddr (s.sp - 1 - 1) then status
      else if a = stackAddr (s.sp - 1) then loByte w
      else if a = stackAddr s.sp then hiByte w
      else s.readMem a := by
  simp only [State.pushFrame]
  rw [State.readMem_writeMem_of_plain (s := (s.writeMem _ _).writeMem _ _) (stack _) plain,
    State.readMem_writeMem_of_plain (s := s.writeMem _ _) (stack _) plain, State.readMem_writeMem_of_plain (stack _) plain]

/-- A byte that none of the three pushes reaches is kept. -/
theorem State.readMem_pushFrame_of_not_reaches {s : State} {a : Addr} (high : s.bus.reaches (stackAddr s.sp) a = false)
    (low : s.bus.reaches (stackAddr (s.sp - 1)) a = false) (last : s.bus.reaches (stackAddr (s.sp - 1 - 1)) a = false)
    (w : Addr) (status : Byte) : (s.pushFrame w status).readMem a = s.readMem a := by
  simp only [State.pushFrame]
  rw [State.readMem_writeMem_of_not_reaches (s := (s.writeMem _ _).writeMem _ _) last,
    State.readMem_writeMem_of_not_reaches (s := s.writeMem _ _) low, State.readMem_writeMem_of_not_reaches high]

theorem State.enterTrap_sp (s : State) (w : Addr) (breakBit : Bool) (vector : Addr) (label : StepLabel) :
    (s.enterTrap w breakBit vector label).sp = s.sp - 1 - 1 - 1 := by
  simp only [State.enterTrap, State.pushAddr, State.setFlags_sp, State.push_sp]
@[simp] theorem State.enterTrap_a (s : State) (w : Addr) (breakBit : Bool) (vector : Addr) (label : StepLabel) :
    (s.enterTrap w breakBit vector label).a = s.a := by
  simp [State.enterTrap, State.pushAddr]
@[simp] theorem State.enterTrap_x (s : State) (w : Addr) (breakBit : Bool) (vector : Addr) (label : StepLabel) :
    (s.enterTrap w breakBit vector label).x = s.x := by
  simp [State.enterTrap, State.pushAddr]
@[simp] theorem State.enterTrap_y (s : State) (w : Addr) (breakBit : Bool) (vector : Addr) (label : StepLabel) :
    (s.enterTrap w breakBit vector label).y = s.y := by
  simp [State.enterTrap, State.pushAddr]
@[simp] theorem State.enterTrap_flags (s : State) (w : Addr) (breakBit : Bool) (vector : Addr) (label : StepLabel) :
    (s.enterTrap w breakBit vector label).flags = { s.flags with i := true } := by
  simp [State.enterTrap, State.pushAddr]
@[simp] theorem State.enterTrap_halted (s : State) (w : Addr) (breakBit : Bool) (vector : Addr) (label : StepLabel) :
    (s.enterTrap w breakBit vector label).halted = s.halted := by
  simp [State.enterTrap, State.pushAddr]
@[simp] theorem State.enterTrap_irqLine (s : State) (w : Addr) (breakBit : Bool) (vector : Addr) (label : StepLabel) :
    (s.enterTrap w breakBit vector label).irqLine = s.irqLine := by
  simp [State.enterTrap, State.pushAddr]
@[simp] theorem State.enterTrap_nmiLine (s : State) (w : Addr) (breakBit : Bool) (vector : Addr) (label : StepLabel) :
    (s.enterTrap w breakBit vector label).nmiLine = s.nmiLine := by
  simp [State.enterTrap, State.pushAddr]
@[simp] theorem State.enterTrap_nmiPending (s : State) (w : Addr) (breakBit : Bool) (vector : Addr) (label : StepLabel) :
    (s.enterTrap w breakBit vector label).nmiPending = s.nmiPending := by
  simp [State.enterTrap, State.pushAddr]
@[simp] theorem State.enterTrap_cycles (s : State) (w : Addr) (breakBit : Bool) (vector : Addr) (label : StepLabel) :
    (s.enterTrap w breakBit vector label).cycles = 7 := by
  simp [State.enterTrap, State.pushAddr]
@[simp] theorem State.enterTrap_outcome (s : State) (w : Addr) (breakBit : Bool) (vector : Addr) (label : StepLabel) :
    (s.enterTrap w breakBit vector label).outcome = label := by
  simp [State.enterTrap, State.pushAddr]
@[simp] theorem State.enterTrap_bus (s : State) (w : Addr) (breakBit : Bool) (vector : Addr) (label : StepLabel) :
    (s.enterTrap w breakBit vector label).bus = s.bus := by
  simp [State.enterTrap, State.pushAddr]

/-- Taking a trap keeps the canonical form. -/
theorem State.wf_enterTrap (s : State) (w : Addr) (breakBit : Bool) (vector : Addr) (label : StepLabel)
    (h : Memory.wf s.mem = true) : Memory.wf (s.enterTrap w breakBit vector label).mem = true :=
  State.wf_push _ _ (State.wf_push _ _ (State.wf_push _ _ h))

@[simp] theorem State.returnFromTrap_a (s : State) : s.returnFromTrap.a = s.a := by
  simp [State.returnFromTrap, State.pullByte]
@[simp] theorem State.returnFromTrap_x (s : State) : s.returnFromTrap.x = s.x := by
  simp [State.returnFromTrap, State.pullByte]
@[simp] theorem State.returnFromTrap_y (s : State) : s.returnFromTrap.y = s.y := by
  simp [State.returnFromTrap, State.pullByte]
@[simp] theorem State.returnFromTrap_sp (s : State) : s.returnFromTrap.sp = s.sp + 1 + 1 + 1 := by
  simp [State.returnFromTrap, State.pullByte]
@[simp] theorem State.returnFromTrap_pc (s : State) :
    s.returnFromTrap.pc = wordOf (s.readMem (stackAddr (s.sp + 1 + 1 + 1))) (s.readMem (stackAddr (s.sp + 1 + 1))) := by
  simp [State.returnFromTrap, State.pullByte]
@[simp] theorem State.returnFromTrap_flags (s : State) :
    s.returnFromTrap.flags = s.flags.pulled (s.readMem (stackAddr (s.sp + 1))) := by
  simp [State.returnFromTrap, State.pullByte]
@[simp] theorem State.returnFromTrap_halted (s : State) : s.returnFromTrap.halted = s.halted := by
  simp [State.returnFromTrap, State.pullByte]
@[simp] theorem State.returnFromTrap_irqLine (s : State) : s.returnFromTrap.irqLine = s.irqLine := by
  simp [State.returnFromTrap, State.pullByte]
@[simp] theorem State.returnFromTrap_nmiLine (s : State) : s.returnFromTrap.nmiLine = s.nmiLine := by
  simp [State.returnFromTrap, State.pullByte]
@[simp] theorem State.returnFromTrap_nmiPending (s : State) : s.returnFromTrap.nmiPending = s.nmiPending := by
  simp [State.returnFromTrap, State.pullByte]
@[simp] theorem State.returnFromTrap_cycles (s : State) : s.returnFromTrap.cycles = 6 := by
  simp [State.returnFromTrap, State.pullByte]
@[simp] theorem State.returnFromTrap_outcome (s : State) : s.returnFromTrap.outcome = .executed := by
  simp [State.returnFromTrap, State.pullByte]
@[simp] theorem State.returnFromTrap_mem (s : State) : s.returnFromTrap.mem = s.mem := by
  simp [State.returnFromTrap, State.pullByte]
@[simp] theorem State.returnFromTrap_bus (s : State) : s.returnFromTrap.bus = s.bus := by
  simp [State.returnFromTrap, State.pullByte]
@[simp] theorem State.returnFromTrap_devices (s : State) : s.returnFromTrap.devices = s.devices := by
  simp [State.returnFromTrap, State.pullByte]

/-! ### The rules the meanings share -/

theorem readRule_next {m : MemOperand} {base : Nat} {penalty : Bool} {effect : Byte → State → State} {s t : State}
    (h : readRule m base penalty effect s = .next t) :
    t = (effect (operandByte m s) s).retire m.length (base + extraCycle penalty (resolve m s).crossed) := by
  injection h with h
  exact h.symm

theorem writeRule_next {m : MemOperand} {base : Nat} {v : Byte} {s t : State} (h : writeRule m base v s = .next t) :
    t = (s.writeMem (resolve m s).ea v).retire m.length base := by
  injection h with h
  exact h.symm

theorem modifyRule_next {m : MemOperand} {base : Nat} {change : Byte → Byte} {effect : Byte → Byte → State → State}
    {s t : State} (h : modifyRule m base change effect s = .next t) :
    t = (effect (operandByte m s) (change (operandByte m s))
      (s.writeMem (resolve m s).ea (change (operandByte m s)))).retire m.length base := by
  injection h with h
  exact h.symm

theorem unstableRule_next {m : MemOperand} {base : Nat} {r : Byte} {s t : State} (h : unstableRule m base r s = .next t) :
    t = (s.writeMem (unstableAddr r (resolve m s)) (unstableValue r (resolve m s))).retire m.length base := by
  injection h with h
  exact h.symm

/-- A branch changes `PC` and what the step reports, and nothing else. -/
theorem branchRule_next {taken : Bool} {d : Byte} {s t : State} (h : branchRule taken d s = .next t) :
    t = s.retireAt (if taken then branchTarget d s else s.pc + 2)
      (if taken then (if hiByte (branchTarget d s) != hiByte (s.pc + 2) then 4 else 3) else 2) := by
  cases taken <;> injection h with h <;> exact h.symm

/-- JSR changes the two pushed bytes, `S`, `PC` and what the step reports, and nothing else. -/
theorem jsrRule_next {w : Addr} {s t : State} (h : jsrRule w s = .next t) :
    t = (s.pushAddr (s.pc + 2)).retireAt (wordOf ((s.pushAddr (s.pc + 2)).readMem (s.pc + 2)) (loByte w)) 6 := by
  injection h with h
  exact h.symm

@[simp] theorem State.readMem_pushAddr (s : State) (w a : Addr) :
    (s.pushAddr w).readMem a =
      ((s.writeMem (stackAddr s.sp) (hiByte w)).writeMem (stackAddr (s.sp - 1)) (loByte w)).readMem a := rfl

/-- The two bytes of a pushed address when the stack page is plain memory. -/
theorem State.readMem_pushAddr_of_plain {s : State} (stack : ∀ k : Byte, s.bus.plainAt (stackAddr k)) {a : Addr}
    (plain : s.bus.plainAt a) (w : Addr) :
    (s.pushAddr w).readMem a =
      if a = stackAddr (s.sp - 1) then loByte w else if a = stackAddr s.sp then hiByte w else s.readMem a := by
  rw [State.readMem_pushAddr, State.readMem_writeMem_of_plain (s := s.writeMem _ _) (stack _) plain,
    State.readMem_writeMem_of_plain (stack _) plain]

theorem State.wf_pushAddr (s : State) (w : Addr) (h : Memory.wf s.mem = true) : Memory.wf (s.pushAddr w).mem = true :=
  State.wf_push _ _ (State.wf_push _ _ h)

/-! ### The boundary -/

/-- What each event of the boundary check says of the state. -/
theorem boundary_cases (s : State) :
    (boundary s = .halted ∧ s.halted = true) ∨
    (boundary s = .nmi ∧ s.halted = false ∧ s.nmiPending = true) ∨
    (boundary s = .irq ∧ s.halted = false ∧ s.nmiPending = false ∧ s.irqLine = true ∧ s.flags.i = false) ∨
    (boundary s = .instruction ∧ s.halted = false ∧ s.nmiPending = false ∧ (s.irqLine = false ∨ s.flags.i = true)) := by
  unfold boundary
  cases s.halted <;> cases s.nmiPending <;> cases s.irqLine <;> cases s.flags.i <;> simp

/-- What a step can do: stay halted, take one of the two interrupts, or run the instruction at `PC`. -/
theorem step_cases {s : State} {r : Result} (h : step s = r) :
    (s.halted = true ∧ r = .next (haltedStep s)) ∨
    (s.halted = false ∧ s.nmiPending = true ∧ r = .next (serviceNmi s)) ∨
    (s.halted = false ∧ s.nmiPending = false ∧ s.irqLine = true ∧ s.flags.i = false ∧ r = .next (serviceIrq s)) ∨
    (s.halted = false ∧ s.nmiPending = false ∧ (s.irqLine = false ∨ s.flags.i = true) ∧ r = exec s.fetchInstr s) := by
  subst h
  unfold step
  rcases boundary_cases s with ⟨e, h⟩ | ⟨e, h⟩ | ⟨e, h⟩ | ⟨e, h⟩ <;> rw [e] <;> simp [h]

/-- The fetch is what the decoder reads from the three bytes at `PC`. -/
theorem decode_fetch (s : State) :
    decode [s.readMem s.pc, s.readMem (s.pc + 1), s.readMem (s.pc + 2)] =
      .instr s.fetchInstr ([s.readMem (s.pc + 1), s.readMem (s.pc + 2)].drop (operandBytes (s.readMem s.pc))) :=
  decode_three _ _ _

end Sys2Proof.Machine
end

