-- ==== Sys2Proof/Tests/Slice0.lean ====
section
/-! SUPPORT. The model's own tests: well-formedness, the words of the opcode map, one step per case with the expected results of
spec/95_test_vectors.md, the host interface, and for each statement with hypotheses a witness that meets them. -/

namespace Sys2Proof.Tests

open Sys2Proof.Machine Sys2Proof.Claims

/-! ### Builders -/

/-- Start registers; the defaults are those of the conventions of spec/95_test_vectors.md. -/
structure Regs where
  a : Byte := 0x00
  x : Byte := 0x00
  y : Byte := 0x00
  s : Byte := 0xFD
  p : Byte := 0x24

/-- Bytes stored one after the other. -/
def storeAll (cells : List (Addr × Byte)) (s : State) : State := cells.foldl (fun s c => s.writeMem c.1 c.2) s

/-- A state about to run `code` at `pc`, with other bytes of memory given. -/
def place (code : List Byte) (pc : Addr) (r : Regs) (cells : List (Addr × Byte)) : State :=
  let s : State := { State.reset with a := r.a, x := r.x, y := r.y, sp := r.s, pc := pc, flags := Flags.ofByte r.p }
  storeAll (code.zipIdx.map (fun b => (pc + BitVec.ofNat 16 b.2, b.1))) (storeAll cells s)

/-- An outcome is a next state of which `p` holds. -/
def holdsOf (r : Result) (p : State → Bool) : Bool :=
  match r with
  | .next t => p t
  | _ => false

/-- The step gives a next state of which `p` holds. -/
def gives (s : State) (p : State → Bool) : Bool := holdsOf (step s) p

/-- Each byte string decodes to its instruction with nothing left. -/
def readsAs (words : List (List Byte × Instr)) : Bool := words.all (fun w => decode w.1 == .instr w.2 [])

/-- The next state of a step, for witnesses. -/
def after (s : State) : State :=
  match step s with
  | .next t => t
  | _ => s

/-- The vectors and the code of the common setup of part 3 of spec/95_test_vectors.md. -/
def common (first : Byte) (p : Byte) : State :=
  place [first, 0xEA, 0xEA] 0x8000 { p := p }
    [(0xFFFA, 0x00), (0xFFFB, 0xA0), (0xFFFC, 0x00), (0xFFFD, 0x80), (0xFFFE, 0x00), (0xFFFF, 0x90), (0x9000, 0x40),
     (0xA000, 0x40)]

/-- An example of a host's map: 2 KiB of RAM seen four times, a unit of the host's, a range where nothing answers, ROM at the top. -/
def exampleBus : BusMap :=
  [{ first := 0x0000, last := 0x1FFF, reads := .cells 0x0000 0x0800, writes := .cells 0x0000 0x0800 },
   { first := 0x2000, last := 0x3FFF, reads := .device, writes := .device },
   { first := 0x4000, last := 0x7FFF, reads := .fixed 0x40, writes := .fixed 0x00 },
   { first := 0x8000, last := 0xFFFF, reads := .cells 0x8000 0x8000, writes := .fixed 0x00 }]

/-- A state about to run `code` from the ROM of `exampleBus`. -/
def onExampleBus (code : List Byte) (r : Regs) (cells : List (Addr × Byte)) : State :=
  { place code 0x8000 r cells with bus := exampleBus }

/-! ### Well-formedness: byte strings that are refused (R80, R84) -/

theorem test_wf_refuses_no_opcode : wellFormedBytes [] = false := by decide
theorem test_wf_refuses_missing_operand : wellFormedBytes [0xA9] = false := by decide
theorem test_wf_refuses_missing_high_byte : wellFormedBytes [0xAD, 0x34] = false := by decide
theorem test_wf_refuses_extra_byte : wellFormedBytes [0xA9, 0x00, 0x00] = false ∧ wellFormedBytes [0xEA, 0x00] = false := by
  decide
theorem test_wf_accepts_each_format :
    wellFormedBytes [0xEA] ∧ wellFormedBytes [0xA9, 0x00] ∧ wellFormedBytes [0xAD, 0x00, 0x00] := by decide
theorem test_decode_refuses_by_name :
    decode [] = .refused .noOpcode ∧ decode [0xA9] = .refused (.truncated 0xA9) ∧
    decode [0x4C, 0x00] = .refused (.truncated 0x4C) := by decide

/-! ### Every word of the opcode map (R86), operand bytes 0x34 and 0x12 -/

theorem test_decode_row_0 :
    readsAs [
      ([0x00], .brk), ([0x01, 0x34], .oraIzx 0x34), ([0x02], .jam02), ([0x03, 0x34], .sloIzx 0x34),
      ([0x04, 0x34], .nopZp04 0x34), ([0x05, 0x34], .oraZp 0x34), ([0x06, 0x34], .aslZp 0x34), ([0x07, 0x34], .sloZp 0x34),
      ([0x08], .php), ([0x09, 0x34], .oraImm 0x34), ([0x0A], .aslAcc), ([0x0B, 0x34], .anc0B 0x34),
      ([0x0C, 0x34, 0x12], .nopAbs0C 0x1234), ([0x0D, 0x34, 0x12], .oraAbs 0x1234), ([0x0E, 0x34, 0x12], .aslAbs 0x1234), ([0x0F, 0x34, 0x12], .sloAbs 0x1234)] := by decide

theorem test_decode_row_1 :
    readsAs [
      ([0x10, 0x34], .bpl 0x34), ([0x11, 0x34], .oraIzy 0x34), ([0x12], .jam12), ([0x13, 0x34], .sloIzy 0x34),
      ([0x14, 0x34], .nopZpx14 0x34), ([0x15, 0x34], .oraZpx 0x34), ([0x16, 0x34], .aslZpx 0x34), ([0x17, 0x34], .sloZpx 0x34),
      ([0x18], .clc), ([0x19, 0x34, 0x12], .oraAby 0x1234), ([0x1A], .nopImp1A), ([0x1B, 0x34, 0x12], .sloAby 0x1234),
      ([0x1C, 0x34, 0x12], .nopAbx1C 0x1234), ([0x1D, 0x34, 0x12], .oraAbx 0x1234), ([0x1E, 0x34, 0x12], .aslAbx 0x1234), ([0x1F, 0x34, 0x12], .sloAbx 0x1234)] := by decide

theorem test_decode_row_2 :
    readsAs [
      ([0x20, 0x34, 0x12], .jsr 0x1234), ([0x21, 0x34], .andIzx 0x34), ([0x22], .jam22), ([0x23, 0x34], .rlaIzx 0x34),
      ([0x24, 0x34], .bitZp 0x34), ([0x25, 0x34], .andZp 0x34), ([0x26, 0x34], .rolZp 0x34), ([0x27, 0x34], .rlaZp 0x34),
      ([0x28], .plp), ([0x29, 0x34], .andImm 0x34), ([0x2A], .rolAcc), ([0x2B, 0x34], .anc2B 0x34),
      ([0x2C, 0x34, 0x12], .bitAbs 0x1234), ([0x2D, 0x34, 0x12], .andAbs 0x1234), ([0x2E, 0x34, 0x12], .rolAbs 0x1234), ([0x2F, 0x34, 0x12], .rlaAbs 0x1234)] := by decide

theorem test_decode_row_3 :
    readsAs [
      ([0x30, 0x34], .bmi 0x34), ([0x31, 0x34], .andIzy 0x34), ([0x32], .jam32), ([0x33, 0x34], .rlaIzy 0x34),
      ([0x34, 0x34], .nopZpx34 0x34), ([0x35, 0x34], .andZpx 0x34), ([0x36, 0x34], .rolZpx 0x34), ([0x37, 0x34], .rlaZpx 0x34),
      ([0x38], .sec), ([0x39, 0x34, 0x12], .andAby 0x1234), ([0x3A], .nopImp3A), ([0x3B, 0x34, 0x12], .rlaAby 0x1234),
      ([0x3C, 0x34, 0x12], .nopAbx3C 0x1234), ([0x3D, 0x34, 0x12], .andAbx 0x1234), ([0x3E, 0x34, 0x12], .rolAbx 0x1234), ([0x3F, 0x34, 0x12], .rlaAbx 0x1234)] := by decide

theorem test_decode_row_4 :
    readsAs [
      ([0x40], .rti), ([0x41, 0x34], .eorIzx 0x34), ([0x42], .jam42), ([0x43, 0x34], .sreIzx 0x34),
      ([0x44, 0x34], .nopZp44 0x34), ([0x45, 0x34], .eorZp 0x34), ([0x46, 0x34], .lsrZp 0x34), ([0x47, 0x34], .sreZp 0x34),
      ([0x48], .pha), ([0x49, 0x34], .eorImm 0x34), ([0x4A], .lsrAcc), ([0x4B, 0x34], .alr 0x34),
      ([0x4C, 0x34, 0x12], .jmpAbs 0x1234), ([0x4D, 0x34, 0x12], .eorAbs 0x1234), ([0x4E, 0x34, 0x12], .lsrAbs 0x1234), ([0x4F, 0x34, 0x12], .sreAbs 0x1234)] := by decide

theorem test_decode_row_5 :
    readsAs [
      ([0x50, 0x34], .bvc 0x34), ([0x51, 0x34], .eorIzy 0x34), ([0x52], .jam52), ([0x53, 0x34], .sreIzy 0x34),
      ([0x54, 0x34], .nopZpx54 0x34), ([0x55, 0x34], .eorZpx 0x34), ([0x56, 0x34], .lsrZpx 0x34), ([0x57, 0x34], .sreZpx 0x34),
      ([0x58], .cli), ([0x59, 0x34, 0x12], .eorAby 0x1234), ([0x5A], .nopImp5A), ([0x5B, 0x34, 0x12], .sreAby 0x1234),
      ([0x5C, 0x34, 0x12], .nopAbx5C 0x1234), ([0x5D, 0x34, 0x12], .eorAbx 0x1234), ([0x5E, 0x34, 0x12], .lsrAbx 0x1234), ([0x5F, 0x34, 0x12], .sreAbx 0x1234)] := by decide

theorem test_decode_row_6 :
    readsAs [
      ([0x60], .rts), ([0x61, 0x34], .adcIzx 0x34), ([0x62], .jam62), ([0x63, 0x34], .rraIzx 0x34),
      ([0x64, 0x34], .nopZp64 0x34), ([0x65, 0x34], .adcZp 0x34), ([0x66, 0x34], .rorZp 0x34), ([0x67, 0x34], .rraZp 0x34),
      ([0x68], .pla), ([0x69, 0x34], .adcImm 0x34), ([0x6A], .rorAcc), ([0x6B, 0x34], .arr 0x34),
      ([0x6C, 0x34, 0x12], .jmpInd 0x1234), ([0x6D, 0x34, 0x12], .adcAbs 0x1234), ([0x6E, 0x34, 0x12], .rorAbs 0x1234), ([0x6F, 0x34, 0x12], .rraAbs 0x1234)] := by decide

theorem test_decode_row_7 :
    readsAs [
      ([0x70, 0x34], .bvs 0x34), ([0x71, 0x34], .adcIzy 0x34), ([0x72], .jam72), ([0x73, 0x34], .rraIzy 0x34),
      ([0x74, 0x34], .nopZpx74 0x34), ([0x75, 0x34], .adcZpx 0x34), ([0x76, 0x34], .rorZpx 0x34), ([0x77, 0x34], .rraZpx 0x34),
      ([0x78], .sei), ([0x79, 0x34, 0x12], .adcAby 0x1234), ([0x7A], .nopImp7A), ([0x7B, 0x34, 0x12], .rraAby 0x1234),
      ([0x7C, 0x34, 0x12], .nopAbx7C 0x1234), ([0x7D, 0x34, 0x12], .adcAbx 0x1234), ([0x7E, 0x34, 0x12], .rorAbx 0x1234), ([0x7F, 0x34, 0x12], .rraAbx 0x1234)] := by decide

theorem test_decode_row_8 :
    readsAs [
      ([0x80, 0x34], .nopImm80 0x34), ([0x81, 0x34], .staIzx 0x34), ([0x82, 0x34], .nopImm82 0x34), ([0x83, 0x34], .saxIzx 0x34),
      ([0x84, 0x34], .styZp 0x34), ([0x85, 0x34], .staZp 0x34), ([0x86, 0x34], .stxZp 0x34), ([0x87, 0x34], .saxZp 0x34),
      ([0x88], .dey), ([0x89, 0x34], .nopImm89 0x34), ([0x8A], .txa), ([0x8B, 0x34], .ane 0x34),
      ([0x8C, 0x34, 0x12], .styAbs 0x1234), ([0x8D, 0x34, 0x12], .staAbs 0x1234), ([0x8E, 0x34, 0x12], .stxAbs 0x1234), ([0x8F, 0x34, 0x12], .saxAbs 0x1234)] := by decide

theorem test_decode_row_9 :
    readsAs [
      ([0x90, 0x34], .bcc 0x34), ([0x91, 0x34], .staIzy 0x34), ([0x92], .jam92), ([0x93, 0x34], .shaIzy 0x34),
      ([0x94, 0x34], .styZpx 0x34), ([0x95, 0x34], .staZpx 0x34), ([0x96, 0x34], .stxZpy 0x34), ([0x97, 0x34], .saxZpy 0x34),
      ([0x98], .tya), ([0x99, 0x34, 0x12], .staAby 0x1234), ([0x9A], .txs), ([0x9B, 0x34, 0x12], .tas 0x1234),
      ([0x9C, 0x34, 0x12], .shy 0x1234), ([0x9D, 0x34, 0x12], .staAbx 0x1234), ([0x9E, 0x34, 0x12], .shx 0x1234), ([0x9F, 0x34, 0x12], .shaAby 0x1234)] := by decide

theorem test_decode_row_A :
    readsAs [
      ([0xA0, 0x34], .ldyImm 0x34), ([0xA1, 0x34], .ldaIzx 0x34), ([0xA2, 0x34], .ldxImm 0x34), ([0xA3, 0x34], .laxIzx 0x34),
      ([0xA4, 0x34], .ldyZp 0x34), ([0xA5, 0x34], .ldaZp 0x34), ([0xA6, 0x34], .ldxZp 0x34), ([0xA7, 0x34], .laxZp 0x34),
      ([0xA8], .tay), ([0xA9, 0x34], .ldaImm 0x34), ([0xAA], .tax), ([0xAB, 0x34], .lxa 0x34),
      ([0xAC, 0x34, 0x12], .ldyAbs 0x1234), ([0xAD, 0x34, 0x12], .ldaAbs 0x1234), ([0xAE, 0x34, 0x12], .ldxAbs 0x1234), ([0xAF, 0x34, 0x12], .laxAbs 0x1234)] := by decide

theorem test_decode_row_B :
    readsAs [
      ([0xB0, 0x34], .bcs 0x34), ([0xB1, 0x34], .ldaIzy 0x34), ([0xB2], .jamB2), ([0xB3, 0x34], .laxIzy 0x34),
      ([0xB4, 0x34], .ldyZpx 0x34), ([0xB5, 0x34], .ldaZpx 0x34), ([0xB6, 0x34], .ldxZpy 0x34), ([0xB7, 0x34], .laxZpy 0x34),
      ([0xB8], .clv), ([0xB9, 0x34, 0x12], .ldaAby 0x1234), ([0xBA], .tsx), ([0xBB, 0x34, 0x12], .las 0x1234),
      ([0xBC, 0x34, 0x12], .ldyAbx 0x1234), ([0xBD, 0x34, 0x12], .ldaAbx 0x1234), ([0xBE, 0x34, 0x12], .ldxAby 0x1234), ([0xBF, 0x34, 0x12], .laxAby 0x1234)] := by decide

theorem test_decode_row_C :
    readsAs [
      ([0xC0, 0x34], .cpyImm 0x34), ([0xC1, 0x34], .cmpIzx 0x34), ([0xC2, 0x34], .nopImmC2 0x34), ([0xC3, 0x34], .dcpIzx 0x34),
      ([0xC4, 0x34], .cpyZp 0x34), ([0xC5, 0x34], .cmpZp 0x34), ([0xC6, 0x34], .decZp 0x34), ([0xC7, 0x34], .dcpZp 0x34),
      ([0xC8], .iny), ([0xC9, 0x34], .cmpImm 0x34), ([0xCA], .dex), ([0xCB, 0x34], .sbx 0x34),
      ([0xCC, 0x34, 0x12], .cpyAbs 0x1234), ([0xCD, 0x34, 0x12], .cmpAbs 0x1234), ([0xCE, 0x34, 0x12], .decAbs 0x1234), ([0xCF, 0x34, 0x12], .dcpAbs 0x1234)] := by decide

theorem test_decode_row_D :
    readsAs [
      ([0xD0, 0x34], .bne 0x34), ([0xD1, 0x34], .cmpIzy 0x34), ([0xD2], .jamD2), ([0xD3, 0x34], .dcpIzy 0x34),
      ([0xD4, 0x34], .nopZpxD4 0x34), ([0xD5, 0x34], .cmpZpx 0x34), ([0xD6, 0x34], .decZpx 0x34), ([0xD7, 0x34], .dcpZpx 0x34),
      ([0xD8], .cld), ([0xD9, 0x34, 0x12], .cmpAby 0x1234), ([0xDA], .nopImpDA), ([0xDB, 0x34, 0x12], .dcpAby 0x1234),
      ([0xDC, 0x34, 0x12], .nopAbxDC 0x1234), ([0xDD, 0x34, 0x12], .cmpAbx 0x1234), ([0xDE, 0x34, 0x12], .decAbx 0x1234), ([0xDF, 0x34, 0x12], .dcpAbx 0x1234)] := by decide

theorem test_decode_row_E :
    readsAs [
      ([0xE0, 0x34], .cpxImm 0x34), ([0xE1, 0x34], .sbcIzx 0x34), ([0xE2, 0x34], .nopImmE2 0x34), ([0xE3, 0x34], .iscIzx 0x34),
      ([0xE4, 0x34], .cpxZp 0x34), ([0xE5, 0x34], .sbcZp 0x34), ([0xE6, 0x34], .incZp 0x34), ([0xE7, 0x34], .iscZp 0x34),
      ([0xE8], .inx), ([0xE9, 0x34], .sbcImm 0x34), ([0xEA], .nop), ([0xEB, 0x34], .usbc 0x34),
      ([0xEC, 0x34, 0x12], .cpxAbs 0x1234), ([0xED, 0x34, 0x12], .sbcAbs 0x1234), ([0xEE, 0x34, 0x12], .incAbs 0x1234), ([0xEF, 0x34, 0x12], .iscAbs 0x1234)] := by decide

theorem test_decode_row_F :
    readsAs [
      ([0xF0, 0x34], .beq 0x34), ([0xF1, 0x34], .sbcIzy 0x34), ([0xF2], .jamF2), ([0xF3, 0x34], .iscIzy 0x34),
      ([0xF4, 0x34], .nopZpxF4 0x34), ([0xF5, 0x34], .sbcZpx 0x34), ([0xF6, 0x34], .incZpx 0x34), ([0xF7, 0x34], .iscZpx 0x34),
      ([0xF8], .sed), ([0xF9, 0x34, 0x12], .sbcAby 0x1234), ([0xFA], .nopImpFA), ([0xFB, 0x34, 0x12], .iscAby 0x1234),
      ([0xFC, 0x34, 0x12], .nopAbxFC 0x1234), ([0xFD, 0x34, 0x12], .sbcAbx 0x1234), ([0xFE, 0x34, 0x12], .incAbx 0x1234), ([0xFF, 0x34, 0x12], .iscAbx 0x1234)] := by decide

theorem test_encode_is_little_endian : encode (.ldaAbs 0x1234) = [0xAD, 0x34, 0x12] ∧ encode (.beq 0x80) = [0xF0, 0x80] := by
  decide
theorem test_table_words : decodeTableWord 8 0xAD = some (.ldaAbs 0x0000) ∧ decodeTableWord 24 0x1234AD = some (.ldaAbs 0x1234) := by
  decide
theorem test_fetch_word : gives (State.reset.withFetchWord 16 0x5AA9) (fun t => t.a == 0x5A && t.pc == 0x0002) := by decide

/-- The opcode census of R86: 151 documented, 105 undocumented, 12 of them JAM, 27 of them NOP. -/
theorem test_opcode_census :
    let all := (List.range 256).map (fun n => opcodeTable (BitVec.ofNat 8 n))
    all.countP (·.legal) = 151 ∧ all.countP (fun e => e.op == .JAM) = 12 ∧
    all.countP (fun e => e.op == .NOP && !e.legal) = 27 := by decide +kernel

/-! ### One step each -/

/-- Vector LS4 of spec/95_test_vectors.md (R131). -/
theorem test_lda_zpx_wraps_inside_page_zero :
    gives (place [0xB5, 0x80] 0x8000 { x := 0xFF } [(0x007F, 0x11), (0x017F, 0x22)])
      (fun t => t.pc == 0x8002 && t.status == 0x24 && t.a == 0x11 && t.cycles == 4) := by decide

/-- Vector LS8 of spec/95_test_vectors.md (R131). -/
theorem test_lda_aby_wraps_past_the_top_of_memory :
    gives (place [0xB9, 0xFF, 0xFF] 0x8000 { y := 0x01 } [(0x0000, 0x9A)])
      (fun t => t.pc == 0x8003 && t.status == 0xA4 && t.a == 0x9A && t.cycles == 5) := by decide

/-- Vector LS9 of spec/95_test_vectors.md (R131). -/
theorem test_lda_izx_pointer_wraps_inside_page_zero :
    gives (place [0xA1, 0xFF] 0x8000 {} [(0x0000, 0x12), (0x00FF, 0x34), (0x0100, 0x99), (0x1234, 0x5A), (0x9934, 0xEE)])
      (fun t => t.pc == 0x8002 && t.status == 0x24 && t.a == 0x5A && t.cycles == 6) := by decide

/-- Vector LS11 of spec/95_test_vectors.md (R131). -/
theorem test_lda_izy_crossing_pays_a_cycle :
    gives (place [0xB1, 0x40] 0x8000 { y := 0x10 } [(0x0040, 0xF8), (0x0041, 0x20), (0x2108, 0x07)])
      (fun t => t.pc == 0x8002 && t.status == 0x24 && t.a == 0x07 && t.cycles == 6) := by decide

/-- Vector LS14 of spec/95_test_vectors.md (R132). -/
theorem test_ldx_zpy_wraps :
    gives (place [0xB6, 0xF0] 0x8000 { y := 0x20 } [(0x0010, 0x0C)])
      (fun t => t.pc == 0x8002 && t.status == 0x24 && t.x == 0x0C && t.cycles == 4) := by decide

/-- Vector LS17 of spec/95_test_vectors.md (R133). -/
theorem test_ldy_abx_crossing_pays_a_cycle :
    gives (place [0xBC, 0x80, 0x20] 0x8000 { x := 0x80 } [(0x2100, 0xF0)])
      (fun t => t.pc == 0x8003 && t.status == 0xA4 && t.y == 0xF0 && t.cycles == 5) := by decide

/-- Vector LS20 of spec/95_test_vectors.md (R134). -/
theorem test_sta_aby_never_pays :
    gives (place [0x99, 0xFF, 0x20] 0x8000 { a := 0x42, y := 0x01 } [])
      (fun t => t.pc == 0x8003 && t.status == 0x24 && t.readMem 0x2100 == 0x42 && t.cycles == 5) := by decide

/-- Vector LS22 of spec/95_test_vectors.md (R134). -/
theorem test_sta_izy_never_pays :
    gives (place [0x91, 0x10] 0x8000 { a := 0x77, y := 0x02 } [(0x0010, 0xFF), (0x0011, 0x02)])
      (fun t => t.pc == 0x8002 && t.status == 0x24 && t.readMem 0x0301 == 0x77 && t.cycles == 6) := by decide

/-- Vector LS24 of spec/95_test_vectors.md (R135). -/
theorem test_stx_zpy_wraps :
    gives (place [0x96, 0xFF] 0x8000 { x := 0x12, y := 0x02 } [])
      (fun t => t.pc == 0x8002 && t.status == 0x24 && t.readMem 0x0001 == 0x12 && t.cycles == 4) := by decide

/-- Vector LS27 of spec/95_test_vectors.md (R136). -/
theorem test_sty_zpx :
    gives (place [0x94, 0x10] 0x8000 { x := 0x05, y := 0x33 } [])
      (fun t => t.pc == 0x8002 && t.status == 0x24 && t.readMem 0x0015 == 0x33 && t.cycles == 4) := by decide

/-- Vector LS29 of spec/95_test_vectors.md (R137). -/
theorem test_tax_sets_zero :
    gives (place [0xAA] 0x8000 { x := 0x55 } [])
      (fun t => t.pc == 0x8001 && t.status == 0x26 && t.x == 0x00 && t.cycles == 2) := by decide

/-- Vector LS30 of spec/95_test_vectors.md (R138). -/
theorem test_tay_sets_negative :
    gives (place [0xA8] 0x8000 { a := 0x80 } [])
      (fun t => t.pc == 0x8001 && t.status == 0xA4 && t.y == 0x80 && t.cycles == 2) := by decide

/-- Vector LS31 of spec/95_test_vectors.md (R139). -/
theorem test_txa_clears_negative :
    gives (place [0x8A] 0x8000 { a := 0xFF, x := 0x7F, p := 0xA4 } [])
      (fun t => t.pc == 0x8001 && t.status == 0x24 && t.a == 0x7F && t.cycles == 2) := by decide

/-- Vector LS32 of spec/95_test_vectors.md (R140). -/
theorem test_tya_sets_zero :
    gives (place [0x98] 0x8000 { a := 0x01 } [])
      (fun t => t.pc == 0x8001 && t.status == 0x26 && t.a == 0x00 && t.cycles == 2) := by decide

/-- Vector LS33 of spec/95_test_vectors.md (R141). -/
theorem test_tsx_sets_negative_from_s :
    gives (place [0xBA] 0x8000 {} [])
      (fun t => t.pc == 0x8001 && t.status == 0xA4 && t.x == 0xFD && t.cycles == 2) := by decide

/-- Vector LS34 of spec/95_test_vectors.md (R142). -/
theorem test_txs_writes_no_flag :
    gives (place [0x9A] 0x8000 {} [])
      (fun t => t.pc == 0x8001 && t.status == 0x24 && t.sp == 0x00 && t.cycles == 2) := by decide

/-- Vector AL3 of spec/95_test_vectors.md (R152). -/
theorem test_adc_carry_in_makes_overflow :
    gives (place [0x69, 0x00] 0x8000 { a := 0x7F, p := 0x25 } [])
      (fun t => t.pc == 0x8002 && t.status == 0xE4 && t.a == 0x80 && t.cycles == 2) := by decide

/-- Vector AL6 of spec/95_test_vectors.md (R152). -/
theorem test_adc_ignores_decimal :
    gives (place [0x69, 0x01] 0x8000 { a := 0x09, p := 0x2C } [])
      (fun t => t.pc == 0x8002 && t.status == 0x2C && t.a == 0x0A && t.cycles == 2) := by decide

/-- Vector AL12 of spec/95_test_vectors.md (R153). -/
theorem test_sbc_borrow_in :
    gives (place [0xE9, 0x00] 0x8000 {} [])
      (fun t => t.pc == 0x8002 && t.status == 0xA4 && t.a == 0xFF && t.cycles == 2) := by decide

/-- Vector AL13 of spec/95_test_vectors.md (R153). -/
theorem test_sbc_overflow :
    gives (place [0xE9, 0x01] 0x8000 { a := 0x80, p := 0x25 } [])
      (fun t => t.pc == 0x8002 && t.status == 0x65 && t.a == 0x7F && t.cycles == 2) := by decide

/-- Vector AL18 of spec/95_test_vectors.md (R154). -/
theorem test_and_keeps_c_and_v :
    gives (place [0x29, 0xF0] 0x8000 { a := 0x90, p := 0x65 } [])
      (fun t => t.pc == 0x8002 && t.status == 0xE5 && t.cycles == 2) := by decide

/-- Vector AL20 of spec/95_test_vectors.md (R155). -/
theorem test_ora :
    gives (place [0x09, 0x80] 0x8000 { a := 0x01 } [])
      (fun t => t.pc == 0x8002 && t.status == 0xA4 && t.a == 0x81 && t.cycles == 2) := by decide

/-- Vector AL22 of spec/95_test_vectors.md (R156). -/
theorem test_eor :
    gives (place [0x49, 0xFF] 0x8000 { a := 0x0F } [])
      (fun t => t.pc == 0x8002 && t.status == 0xA4 && t.a == 0xF0 && t.cycles == 2) := by decide

/-- Vector AL25 of spec/95_test_vectors.md (R157). -/
theorem test_cmp_less :
    gives (place [0xC9, 0x41] 0x8000 { a := 0x40 } [])
      (fun t => t.pc == 0x8002 && t.status == 0xA4 && t.cycles == 2) := by decide

/-- Vector AL27 of spec/95_test_vectors.md (R157). -/
theorem test_cmp_keeps_v :
    gives (place [0xC9, 0x80] 0x8000 { p := 0x64 } [])
      (fun t => t.pc == 0x8002 && t.status == 0xE4 && t.cycles == 2) := by decide

/-- Vector AL32 of spec/95_test_vectors.md (R158). -/
theorem test_cpx_greater :
    gives (place [0xEC, 0x00, 0x02] 0x8000 { x := 0xFF } [(0x0200, 0x7F)])
      (fun t => t.pc == 0x8003 && t.status == 0xA5 && t.cycles == 4) := by decide

/-- Vector AL33 of spec/95_test_vectors.md (R159). -/
theorem test_cpy_less :
    gives (place [0xC0, 0xFF] 0x8000 {} [])
      (fun t => t.pc == 0x8002 && t.status == 0x24 && t.cycles == 2) := by decide

/-- Vector AL36 of spec/95_test_vectors.md (R160). -/
theorem test_bit_takes_n_and_v_from_the_operand :
    gives (place [0x24, 0x10] 0x8000 { a := 0x01 } [(0x0010, 0xC0)])
      (fun t => t.pc == 0x8002 && t.status == 0xE6 && t.cycles == 3) := by decide

/-- Vector AL37 of spec/95_test_vectors.md (R160). -/
theorem test_bit_clears_n_and_v :
    gives (place [0x24, 0x10] 0x8000 { a := 0xFF, p := 0xE4 } [(0x0010, 0x3F)])
      (fun t => t.pc == 0x8002 && t.status == 0x24 && t.cycles == 3) := by decide

/-- Vector SH1 of spec/95_test_vectors.md (R171). -/
theorem test_asl_a_shifts_bit_7_out :
    gives (place [0x0A] 0x8000 { a := 0x80 } [])
      (fun t => t.pc == 0x8001 && t.status == 0x27 && t.a == 0x00 && t.cycles == 2) := by decide

/-- Vector SH12 of spec/95_test_vectors.md (R171). -/
theorem test_asl_abx_crossing_pays_nothing :
    gives (place [0x1E, 0xFF, 0x02] 0x8000 { x := 0x01 } [(0x0300, 0x7F)])
      (fun t => t.pc == 0x8003 && t.status == 0xA4 && t.readMem 0x0300 == 0xFE && t.cycles == 7) := by decide

/-- Vector SH4 of spec/95_test_vectors.md (R172). -/
theorem test_lsr_a_clears_n :
    gives (place [0x4A] 0x8000 { a := 0xFF, p := 0xA4 } [])
      (fun t => t.pc == 0x8001 && t.status == 0x25 && t.a == 0x7F && t.cycles == 2) := by decide

/-- Vector SH5 of spec/95_test_vectors.md (R173). -/
theorem test_rol_a_takes_the_carry_in :
    gives (place [0x2A] 0x8000 { a := 0x80, p := 0x25 } [])
      (fun t => t.pc == 0x8001 && t.status == 0x25 && t.a == 0x01 && t.cycles == 2) := by decide

/-- Vector SH7 of spec/95_test_vectors.md (R174). -/
theorem test_ror_a_takes_the_carry_in :
    gives (place [0x6A] 0x8000 { p := 0x25 } [])
      (fun t => t.pc == 0x8001 && t.status == 0xA4 && t.a == 0x80 && t.cycles == 2) := by decide

/-- Vector SH17 of spec/95_test_vectors.md (R174). -/
theorem test_ror_zp_carry_in_and_out :
    gives (place [0x66, 0x10] 0x8000 { p := 0x25 } [(0x0010, 0x01)])
      (fun t => t.pc == 0x8002 && t.status == 0xA5 && t.readMem 0x0010 == 0x80 && t.cycles == 5) := by decide

/-- Vector SH19 of spec/95_test_vectors.md (R175). -/
theorem test_inc_wraps_and_keeps_c :
    gives (place [0xE6, 0x10] 0x8000 { p := 0x25 } [(0x0010, 0xFF)])
      (fun t => t.pc == 0x8002 && t.status == 0x27 && t.readMem 0x0010 == 0x00 && t.cycles == 5) := by decide

/-- Vector SH23 of spec/95_test_vectors.md (R176). -/
theorem test_dec_wraps :
    gives (place [0xC6, 0x10] 0x8000 {} [(0x0010, 0x00)])
      (fun t => t.pc == 0x8002 && t.status == 0xA4 && t.readMem 0x0010 == 0xFF && t.cycles == 5) := by decide

/-- Vector SH27 of spec/95_test_vectors.md (R177). -/
theorem test_inx_wraps :
    gives (place [0xE8] 0x8000 { x := 0xFF } [])
      (fun t => t.pc == 0x8001 && t.status == 0x26 && t.x == 0x00 && t.cycles == 2) := by decide

/-- Vector SH29 of spec/95_test_vectors.md (R178). -/
theorem test_iny :
    gives (place [0xC8] 0x8000 {} [])
      (fun t => t.pc == 0x8001 && t.status == 0x24 && t.y == 0x01 && t.cycles == 2) := by decide

/-- Vector SH30 of spec/95_test_vectors.md (R179). -/
theorem test_dex_wraps :
    gives (place [0xCA] 0x8000 {} [])
      (fun t => t.pc == 0x8001 && t.status == 0xA4 && t.x == 0xFF && t.cycles == 2) := by decide

/-- Vector SH32 of spec/95_test_vectors.md (R180). -/
theorem test_dey_clears_n :
    gives (place [0x88] 0x8000 { y := 0x80 } [])
      (fun t => t.pc == 0x8001 && t.status == 0x24 && t.y == 0x7F && t.cycles == 2) := by decide

/-- Vector CF13 of spec/95_test_vectors.md (R191). -/
theorem test_bcc_page_is_that_of_the_next_instruction :
    gives (place [0x90, 0xFD] 0x80FE {} [])
      (fun t => t.pc == 0x80FD && t.status == 0x24 && t.cycles == 4) := by decide

/-- Vector CF2 of spec/95_test_vectors.md (R191). -/
theorem test_bcc_not_taken :
    gives (place [0x90, 0x05] 0x8000 { p := 0x25 } [])
      (fun t => t.pc == 0x8002 && t.status == 0x25 && t.cycles == 2) := by decide

/-- Vector CF15 of spec/95_test_vectors.md (R192). -/
theorem test_bcs_wraps_below_zero :
    gives (place [0xB0, 0x80] 0xFFFF { p := 0x25 } [])
      (fun t => t.pc == 0xFF81 && t.status == 0x25 && t.cycles == 4) := by decide

/-- Vector CF4 of spec/95_test_vectors.md (R193). -/
theorem test_beq_crosses :
    gives (place [0xF0, 0x20] 0x80F0 { p := 0x26 } [])
      (fun t => t.pc == 0x8112 && t.status == 0x26 && t.cycles == 4) := by decide

/-- Vector CF7 of spec/95_test_vectors.md (R194). -/
theorem test_bne_to_itself :
    gives (place [0xD0, 0xFE] 0x8000 {} [])
      (fun t => t.pc == 0x8000 && t.status == 0x24 && t.cycles == 3) := by decide

/-- Vector CF8 of spec/95_test_vectors.md (R195). -/
theorem test_bmi_largest_forward :
    gives (place [0x30, 0x7F] 0x8000 { p := 0xA4 } [])
      (fun t => t.pc == 0x8081 && t.status == 0xA4 && t.cycles == 3) := by decide

/-- Vector CF9 of spec/95_test_vectors.md (R196). -/
theorem test_bpl_largest_backward :
    gives (place [0x10, 0x80] 0x8000 {} [])
      (fun t => t.pc == 0x7F82 && t.status == 0x24 && t.cycles == 4) := by decide

/-- Vector CF10 of spec/95_test_vectors.md (R197). -/
theorem test_bvc_not_taken :
    gives (place [0x50, 0x10] 0x8000 { p := 0x64 } [])
      (fun t => t.pc == 0x8002 && t.status == 0x64 && t.cycles == 2) := by decide

/-- Vector CF11 of spec/95_test_vectors.md (R198). -/
theorem test_bvs_taken :
    gives (place [0x70, 0x10] 0x8000 { p := 0x64 } [])
      (fun t => t.pc == 0x8012 && t.status == 0x64 && t.cycles == 3) := by decide

/-- Vector CF16 of spec/95_test_vectors.md (R199). -/
theorem test_jmp_abs :
    gives (place [0x4C, 0x00, 0x90] 0x8000 {} [])
      (fun t => t.pc == 0x9000 && t.status == 0x24 && t.cycles == 3) := by decide

/-- Vector CF18 of spec/95_test_vectors.md (R200). -/
theorem test_jmp_ind_pointer_stays_in_its_page :
    gives (place [0x6C, 0xFF, 0x30] 0x8000 {} [(0x3000, 0x50), (0x30FF, 0x80), (0x3100, 0x40)])
      (fun t => t.pc == 0x5080 && t.status == 0x24 && t.cycles == 5) := by decide

/-- Vector CF21 of spec/95_test_vectors.md (R201). -/
theorem test_jsr_pushes_its_last_address_across_the_stack_wrap :
    gives (place [0x20, 0x00, 0x90] 0x80FF { s := 0x00 } [])
      (fun t => t.pc == 0x9000 && t.status == 0x24 && t.sp == 0xFE && t.readMem 0x0100 == 0x81 && t.readMem 0x01FF == 0x01 && t.cycles == 6) := by decide

/-- Vector CF23 of spec/95_test_vectors.md (R202). -/
theorem test_rts_adds_one_and_wraps :
    gives (place [0x60] 0x8000 { s := 0xFF } [(0x0100, 0xFF), (0x0101, 0xFF)])
      (fun t => t.pc == 0x0000 && t.status == 0x24 && t.sp == 0x01 && t.cycles == 6) := by decide

/-- Vector ST2 of spec/95_test_vectors.md (R210). -/
theorem test_pha_wraps :
    gives (place [0x48] 0x8000 { a := 0x42, s := 0x00 } [])
      (fun t => t.pc == 0x8001 && t.status == 0x24 && t.sp == 0xFF && t.readMem 0x0100 == 0x42 && t.cycles == 3) := by decide

/-- Vector ST3 of spec/95_test_vectors.md (R211). -/
theorem test_php_pushes_bits_5_and_4 :
    gives (place [0x08] 0x8000 { p := 0xA1 } [])
      (fun t => t.pc == 0x8001 && t.status == 0xA1 && t.sp == 0xFC && t.readMem 0x01FD == 0xB1 && t.cycles == 3) := by decide

/-- Vector ST6 of spec/95_test_vectors.md (R212). -/
theorem test_pla_reads_0100_from_ff :
    gives (place [0x68] 0x8000 { s := 0xFF } [(0x0100, 0x80), (0x01FF, 0x11)])
      (fun t => t.pc == 0x8001 && t.status == 0xA4 && t.a == 0x80 && t.sp == 0x00 && t.cycles == 4) := by decide

/-- Vector ST9 of spec/95_test_vectors.md (R213). -/
theorem test_plp_keeps_the_stored_b :
    gives (place [0x28] 0x8000 { s := 0xFC, p := 0x34 } [(0x01FD, 0x00)])
      (fun t => t.pc == 0x8001 && t.status == 0x30 && t.sp == 0xFD && t.cycles == 4) := by decide

/-- Vector ST10 of spec/95_test_vectors.md (R214). -/
theorem test_clc :
    gives (place [0x18] 0x8000 { p := 0x25 } [])
      (fun t => t.pc == 0x8001 && t.status == 0x24 && t.cycles == 2) := by decide

/-- Vector ST11 of spec/95_test_vectors.md (R215). -/
theorem test_sec :
    gives (place [0x38] 0x8000 {} [])
      (fun t => t.pc == 0x8001 && t.status == 0x25 && t.cycles == 2) := by decide

/-- Vector ST12 of spec/95_test_vectors.md (R216). -/
theorem test_cli :
    gives (place [0x58] 0x8000 {} [])
      (fun t => t.pc == 0x8001 && t.status == 0x20 && t.cycles == 2) := by decide

/-- Vector ST13 of spec/95_test_vectors.md (R217). -/
theorem test_sei :
    gives (place [0x78] 0x8000 { p := 0x20 } [])
      (fun t => t.pc == 0x8001 && t.status == 0x24 && t.cycles == 2) := by decide

/-- Vector ST14 of spec/95_test_vectors.md (R218). -/
theorem test_clv :
    gives (place [0xB8] 0x8000 { p := 0x64 } [])
      (fun t => t.pc == 0x8001 && t.status == 0x24 && t.cycles == 2) := by decide

/-- Vector ST15 of spec/95_test_vectors.md (R219). -/
theorem test_cld :
    gives (place [0xD8] 0x8000 { p := 0x2C } [])
      (fun t => t.pc == 0x8001 && t.status == 0x24 && t.cycles == 2) := by decide

/-- Vector ST16 of spec/95_test_vectors.md (R220). -/
theorem test_sed :
    gives (place [0xF8] 0x8000 {} [])
      (fun t => t.pc == 0x8001 && t.status == 0x2C && t.cycles == 2) := by decide

/-- Vector ST17 of spec/95_test_vectors.md (R221). -/
theorem test_nop :
    gives (place [0xEA] 0x8000 { a := 0x01, x := 0x02, y := 0x03, p := 0xE7 } [])
      (fun t => t.pc == 0x8001 && t.status == 0xE7 && t.cycles == 2) := by decide

/-- Vector ST18 of spec/95_test_vectors.md (R222). -/
theorem test_brk_unmasked :
    gives (place [0x00, 0xFF] 0x8000 { p := 0x20 } [(0xFFFE, 0x00), (0xFFFF, 0x90)])
      (fun t => t.pc == 0x9000 && t.status == 0x24 && t.sp == 0xFA && t.readMem 0x01FD == 0x80 && t.readMem 0x01FC == 0x02 && t.readMem 0x01FB == 0x30 && t.cycles == 7 && t.outcome == .brk) := by decide

/-- Vector ST19 of spec/95_test_vectors.md (R222). -/
theorem test_brk_masked_with_stack_wrap :
    gives (place [0x00, 0xFF] 0x12FF { s := 0x01, p := 0xE7 } [(0xFFFE, 0x34), (0xFFFF, 0x12)])
      (fun t => t.pc == 0x1234 && t.status == 0xE7 && t.sp == 0xFE && t.readMem 0x0101 == 0x13 && t.readMem 0x0100 == 0x01 && t.readMem 0x01FF == 0xF7 && t.cycles == 7 && t.outcome == .brk) := by decide

/-- Vector ST21 of spec/95_test_vectors.md (R223). -/
theorem test_rti_adds_nothing_and_wraps :
    gives (place [0x40] 0x8000 { s := 0xFE } [(0x0100, 0xCD), (0x0101, 0xAB), (0x01FF, 0xCF)])
      (fun t => t.pc == 0xABCD && t.status == 0xEF && t.sp == 0x01 && t.cycles == 6) := by decide

/-- Vector IL2 of spec/95_test_vectors.md (R242). -/
theorem test_nop_imm :
    gives (place [0x80, 0xFF] 0x8000 {} [])
      (fun t => t.pc == 0x8002 && t.status == 0x24 && t.cycles == 2) := by decide

/-- Vector IL7 of spec/95_test_vectors.md (R244). -/
theorem test_nop_abx_crossing_pays_a_cycle :
    gives (place [0x1C, 0xFF, 0x02] 0x8000 { x := 0x01 } [])
      (fun t => t.pc == 0x8003 && t.status == 0x24 && t.cycles == 5) := by decide

/-- Vector IL9 of spec/95_test_vectors.md (R246). -/
theorem test_slo :
    gives (place [0x07, 0x10] 0x8000 { a := 0x01 } [(0x0010, 0x81)])
      (fun t => t.pc == 0x8002 && t.status == 0x25 && t.a == 0x03 && t.readMem 0x0010 == 0x02 && t.cycles == 5) := by decide

/-- Vector IL12 of spec/95_test_vectors.md (R247). -/
theorem test_rla_izy :
    gives (place [0x33, 0x10] 0x8000 { a := 0x0F, y := 0x01 } [(0x0010, 0xFF), (0x0011, 0x02), (0x0300, 0x55)])
      (fun t => t.pc == 0x8002 && t.status == 0x24 && t.a == 0x0A && t.readMem 0x0300 == 0xAA && t.cycles == 8) := by decide

/-- Vector IL14 of spec/95_test_vectors.md (R248). -/
theorem test_sre_aby :
    gives (place [0x5B, 0x00, 0x02] 0x8000 { y := 0x02 } [(0x0202, 0x01)])
      (fun t => t.pc == 0x8003 && t.status == 0x27 && t.readMem 0x0202 == 0x00 && t.cycles == 7) := by decide

/-- Vector IL16 of spec/95_test_vectors.md (R249). -/
theorem test_rra_adds_the_carry_of_the_rotate :
    gives (place [0x67, 0x10] 0x8000 { a := 0x7F } [(0x0010, 0x03)])
      (fun t => t.pc == 0x8002 && t.status == 0xE4 && t.a == 0x81 && t.readMem 0x0010 == 0x01 && t.cycles == 5) := by decide

/-- Vector IL18 of spec/95_test_vectors.md (R250). -/
theorem test_sax_writes_no_flag :
    gives (place [0x97, 0xFF] 0x8000 { a := 0xFF, x := 0x0F, y := 0x02 } [])
      (fun t => t.pc == 0x8002 && t.status == 0x24 && t.readMem 0x0001 == 0x0F && t.cycles == 4) := by decide

/-- Vector IL23 of spec/95_test_vectors.md (R251). -/
theorem test_lax_aby_crossing_pays_a_cycle :
    gives (place [0xBF, 0xFF, 0x02] 0x8000 { y := 0x01 } [(0x0300, 0x7E)])
      (fun t => t.pc == 0x8003 && t.status == 0x24 && t.a == 0x7E && t.x == 0x7E && t.cycles == 5) := by decide

/-- Vector IL26 of spec/95_test_vectors.md (R252). -/
theorem test_dcp :
    gives (place [0xC7, 0x10] 0x8000 { a := 0x10 } [(0x0010, 0x11)])
      (fun t => t.pc == 0x8002 && t.status == 0x27 && t.readMem 0x0010 == 0x10 && t.cycles == 5) := by decide

/-- Vector IL29 of spec/95_test_vectors.md (R253). -/
theorem test_isc :
    gives (place [0xFF, 0x00, 0x02] 0x8000 {} [(0x0200, 0xFF)])
      (fun t => t.pc == 0x8003 && t.status == 0xA4 && t.a == 0xFF && t.readMem 0x0200 == 0x00 && t.cycles == 7) := by decide

/-- Vector IL31 of spec/95_test_vectors.md (R254). -/
theorem test_anc_2b_clears_c :
    gives (place [0x2B, 0x7F] 0x8000 { a := 0xFF, p := 0x25 } [])
      (fun t => t.pc == 0x8002 && t.status == 0x24 && t.a == 0x7F && t.cycles == 2) := by decide

/-- Vector IL33 of spec/95_test_vectors.md (R255). -/
theorem test_alr :
    gives (place [0x4B, 0x01] 0x8000 { a := 0x01 } [])
      (fun t => t.pc == 0x8002 && t.status == 0x27 && t.a == 0x00 && t.cycles == 2) := by decide

/-- Vector IL35 of spec/95_test_vectors.md (R256). -/
theorem test_arr_takes_c_and_v_from_bits_6_and_5 :
    gives (place [0x6B, 0xFF] 0x8000 { a := 0x80 } [])
      (fun t => t.pc == 0x8002 && t.status == 0x65 && t.a == 0x40 && t.cycles == 2) := by decide

/-- Vector IL39 of spec/95_test_vectors.md (R257). -/
theorem test_sbx_without_borrow_in :
    gives (place [0xCB, 0x10] 0x8000 { a := 0x0F, x := 0x0F, p := 0x25 } [])
      (fun t => t.pc == 0x8002 && t.status == 0xA4 && t.x == 0xFF && t.cycles == 2) := by decide

/-- Vector IL41 of spec/95_test_vectors.md (R258). -/
theorem test_usbc :
    gives (place [0xEB, 0x01] 0x8000 { a := 0x80, p := 0x25 } [])
      (fun t => t.pc == 0x8002 && t.status == 0x65 && t.a == 0x7F && t.cycles == 2) := by decide

/-- Vector IL42 of spec/95_test_vectors.md (R259). -/
theorem test_las :
    gives (place [0xBB, 0x00, 0x02] 0x8000 { s := 0xF0 } [(0x0200, 0x3C)])
      (fun t => t.pc == 0x8003 && t.status == 0x24 && t.a == 0x30 && t.x == 0x30 && t.sp == 0x30 && t.cycles == 4) := by decide

/-- Vector IL58 of spec/95_test_vectors.md (R262). -/
theorem test_sha_izy_crossing_moves_the_address :
    gives (place [0x93, 0x10] 0x8000 { a := 0xFF, x := 0x0F, y := 0x80 } [(0x0010, 0x80), (0x0011, 0x40)])
      (fun t => t.pc == 0x8002 && t.status == 0x24 && t.readMem 0x0100 == 0x01 && t.cycles == 6) := by decide

/-- Vector IL57 of spec/95_test_vectors.md (R263). -/
theorem test_shx_crossing_moves_the_address :
    gives (place [0x9E, 0xFF, 0x12] 0x8000 { x := 0x01, y := 0x01 } [])
      (fun t => t.pc == 0x8003 && t.status == 0x24 && t.readMem 0x0100 == 0x01 && t.cycles == 5) := by decide

/-- Vector IL54 of spec/95_test_vectors.md (R264). -/
theorem test_shy_crossing :
    gives (place [0x9C, 0x80, 0x0F] 0x8000 { x := 0x80, y := 0x30 } [])
      (fun t => t.pc == 0x8003 && t.status == 0x24 && t.readMem 0x1000 == 0x10 && t.cycles == 5) := by decide

/-- Vector IL56 of spec/95_test_vectors.md (R265). -/
theorem test_tas_sets_s_then_stores :
    gives (place [0x9B, 0x00, 0x02] 0x8000 { a := 0xF3, x := 0x3F, y := 0x02 } [])
      (fun t => t.pc == 0x8003 && t.status == 0x24 && t.sp == 0x33 && t.readMem 0x0202 == 0x03 && t.cycles == 5) := by decide

/-- Vector IL8 (R245), but for the open constant `JAM_CYCLES`. -/
theorem test_jam_halts :
    gives (place [0x02] 0x8000 {} []) (fun t => t.halted && t.pc == 0x8001 && t.outcome == .halted && t.sp == 0xFD) := by decide

/-- Vectors IL44, IL45, IL46 (R260): the constants they name are put in by hand. -/
theorem test_ane_for_three_constants :
    aneValue 0xFF 0xFF (place [] 0x8000 { x := 0xFF } []) = 0xFF ∧ aneValue 0xEE 0xFF (place [] 0x8000 { x := 0xFF } []) = 0xEE ∧
    aneValue 0x00 0x0F (place [] 0x8000 { a := 0x81, x := 0x3C } []) = 0x00 := by decide

/-- Vectors IL47, IL48, IL49 (R261): the constants they name are put in by hand. -/
theorem test_lxa_for_three_constants :
    lxaValue 0xFF 0x5A (place [] 0x8000 {} []) = 0x5A ∧ lxaValue 0xEE 0x5A (place [] 0x8000 {} []) = 0x4A ∧
    lxaValue 0x00 0xFF (place [] 0x8000 { a := 0x80 } []) = 0x80 := by decide

/-- R201 with a push over the last operand byte: the high byte of the target is the byte pushed there (return address 0x01FD). -/
theorem test_jsr_reads_its_high_byte_after_the_pushes :
    gives (place [0x20, 0x34, 0x12] 0x01FB { s := 0xFD } []) (fun t => t.pc == 0x0134 && t.readMem 0x01FD == 0x01) := by decide

/-! ### The bus (R50, R51, R53, decision D6) -/

theorem test_store_to_rom_is_lost :
    gives (onExampleBus [0x8D, 0x10, 0x90] { a := 0x5A } [(0x9010, 0x11)])
      (fun t => t.readMem 0x9010 == 0x11 && t.pc == 0x8003 && t.cycles == 4) := by decide

theorem test_store_is_seen_at_its_mirrors :
    gives (onExampleBus [0x8D, 0x10, 0x08] { a := 0x5A } [])
      (fun t => t.readMem 0x0010 == 0x5A && t.readMem 0x0810 == 0x5A && t.readMem 0x1810 == 0x5A && t.readMem 0x0011 == 0x00) := by
  decide

theorem test_load_where_nothing_answers :
    gives (onExampleBus [0xAD, 0x00, 0x50] {} [(0x5000, 0x99)]) (fun t => t.a == 0x40 && t.status == 0x24) := by decide

/-- A load from a unit of the host's takes whatever the unit answers. -/
theorem test_load_from_the_hosts_unit :
    (after (onExampleBus [0xAD, 0x02, 0x20] {} [])).a = Config.deviceRead 0 0x2002 := rfl

/-- A store to a unit of the host's changes the unit, not the storage. -/
theorem test_store_to_the_hosts_unit :
    let s := onExampleBus [0x8D, 0x06, 0x20] { a := 0x5A } []
    (after s).devices = Config.deviceWrite 0 0x2006 0x5A ∧ (after s).mem = s.mem := ⟨rfl, rfl⟩

theorem test_fetch_word_in_rom :
    gives (({ State.reset with pc := 0x8000, bus := exampleBus } : State).withFetchWord 16 0x5AA9)
      (fun t => t.a == 0x5A && t.pc == 0x8002) := by decide

/-! ### Interrupts, Reset, host -/

/-- Vector IN1, step 1 (R303, R306, R320). -/
theorem test_nmi_frame :
    gives ((common 0xEA 0xA1).setNmiLine true) (fun t => t.outcome == .nmi && t.pc == 0xA000 && t.sp == 0xFA && t.status == 0xA5 &&
      t.readMem 0x01FD == 0x80 && t.readMem 0x01FC == 0x00 && t.readMem 0x01FB == 0xA1 && t.cycles == 7 && !t.nmiPending) := by
  decide

/-- Vector IN2 (R305). -/
theorem test_irq_masked : gives ((common 0xEA 0x24).setIrqLine true) (fun t => t.outcome == .executed && t.pc == 0x8001) := by decide

/-- Vector IN4, step 1 (R305): NMI before IRQ. -/
theorem test_nmi_before_irq :
    gives (((common 0xEA 0x20).setNmiLine true).setIrqLine true) (fun t => t.outcome == .nmi && t.irqLine) := by decide

/-- Vector IN6 (R33, R320): the stored Break flag is not what an IRQ pushes. -/
theorem test_irq_pushes_break_clear :
    gives ((common 0xEA 0x30).setIrqLine true) (fun t => t.outcome == .irq && t.pc == 0x9000 && t.readMem 0x01FB == 0x20 &&
      t.status == 0x34) := by decide

/-- Vector IN5 (R303): two rising edges before a boundary are one pending NMI; a level held high makes none. -/
theorem test_nmi_edges :
    let s := (((common 0xEA 0x20).setNmiLine true).setNmiLine false).setNmiLine true
    s.nmiPending = true ∧ ((after s).setNmiLine true).nmiPending = false := by decide

/-- Vector IN7 (R310). -/
theorem test_reset :
    let s := { common 0xEA 0xC3 with a := 0x01, x := 0x02, y := 0x03, sp := 0x01, pc := 0x4321 }
    let t := hostAct .reset (s.setNmiLine true)
    t.sp = 0xFE ∧ t.status = 0xE7 ∧ t.pc = 0x8000 ∧ t.a = 0x01 ∧ t.nmiPending = false ∧ t.nmiLine = true ∧ t.mem = s.mem ∧
    t.cycles = 7 ∧ t.outcome = .reset := by decide

/-- Vector IN8, step 2 (R302): a halted core takes no interrupt. -/
theorem test_halted_takes_no_interrupt :
    gives ((({ common 0x02 0x20 with halted := true } : State).setNmiLine true).setIrqLine true)
      (fun t => t.outcome == .halted && t.pc == 0x8000 && t.sp == 0xFD && t.nmiPending) := by decide

/-- Vectors HA1 to HA4 (R26, R27). -/
theorem test_status_round_trip :
    (State.reset.setStatus 0x00).status = 0x20 ∧ (State.reset.setStatus 0xFF).status = 0xFF ∧
    (State.reset.setStatus 0xDF).status = 0xFF ∧ (State.reset.setStatus 0x10).status = 0x30 := by decide

/-- `State.reset` is power-on with the draw of log entry 1. -/
theorem test_reset_is_power_on :
    State.reset = powerOn { a := 0, x := 0, y := 0, sp := 0, pc := 0, flags := Flags.ofByte 0x00 } [] 0 [] := by decide

/-- R363 for INC zero page: fetch, operand, read, write back, write. -/
theorem test_bus_inc_zp :
    stepBusActivity (place [0xE6, 0x10] 0x8000 {} [(0x10, 0x7F)]) =
      [.read 0x8000 false, .read 0x8001 false, .read 0x0010 false, .write 0x0010 0x7F true, .write 0x0010 0x80 false] := by decide

/-- R366: Reset makes seven reads and no write. -/
theorem test_bus_reset :
    (resetBusActivity State.reset).length = 7 ∧ replay (resetBusActivity State.reset) State.reset = State.reset := by decide

/-! ### Witnesses: states and operands that meet the hypotheses of the statements -/

/-- The stack page is RAM in plain memory and in the example of a host's map, and not where the whole page is the host's unit. -/
theorem witness_StackIsRam :
    StackIsRam [] ∧ StackIsRam exampleBus ∧
    ¬ StackIsRam [{ first := 0x0100, last := 0x01FF, reads := .device, writes := .device }] :=
  ⟨fun _ => ⟨rfl, rfl⟩, by unfold StackIsRam; decide, fun h => absurd (h 0).1 (by decide)⟩

theorem witness_EncodeOfDecodeIsTheBytes : decode [0xA9, 0x10, 0xFF] = .instr (.ldaImm 0x10) [0xFF] := by decide

theorem witness_DecoderRefusesOnlyTruncatedBytes :
    operandBytes 0xEA ≤ ([] : List Byte).length ∧ operandBytes 0xA9 ≤ [0x10].length ∧ operandBytes 0xAD ≤ [0x34, 0x12].length ∧
    ([] : List Byte).length < operandBytes 0xA9 ∧ [0x34].length < operandBytes 0xAD := by decide

theorem witness_PagePenaltyExactlyForIndexedReads :
    (Instr.ldaAbx 0).entry.pagePenalty = true ∧ (Instr.ldaAby 0).entry.pagePenalty = true ∧
    (Instr.ldaIzy 0).entry.pagePenalty = true ∧ (Instr.staAbx 0).entry.pagePenalty = false := by decide

/-- Both reasons for no IRQ: the line is not asserted; it is asserted and masked. -/
theorem witness_StepRunsTheDecodedInstruction :
    let s := place [0xA9, 0x10] 0x8000 {} []
    let masked := s.setIrqLine true
    (s.halted = false ∧ s.nmiPending = false ∧ s.irqLine = false ∧
      decode [s.readMem s.pc, s.readMem (s.pc + 1), s.readMem (s.pc + 2)] = .instr (.ldaImm 0x10) [0x00]) ∧
    (masked.halted = false ∧ masked.nmiPending = false ∧ masked.irqLine = true ∧ masked.flags.i = true ∧
      decode [masked.readMem masked.pc, masked.readMem (masked.pc + 1), masked.readMem (masked.pc + 2)] =
        .instr (.ldaImm 0x10) [0x00]) := by decide

/-- The penalty at its boundary (low byte plus index 255 and 256), the three branch terms, and a JAM, which has no base. -/
theorem witness_CycleCountFollowsTheTable :
    let s := place [] 0x80F0 { x := 0x0F } []
    (Instr.ldaAbx 0x12F0).entry.baseCycles = some 4 ∧ crossedOf (.ldaAbx 0x12F0) s = false ∧
    crossedOf (.ldaAbx 0x12F1) s = true ∧
    (Instr.bne 0x00).entry.baseCycles = some 2 ∧ branchCondition (Instr.bne 0x00).entry.op s.flags = true ∧
    branchCondition (Instr.beq 0x00).entry.op s.flags = false ∧
    hiByte (branchTarget 0x0D s) = hiByte (s.pc + 2) ∧ hiByte (branchTarget 0x0E s) ≠ hiByte (s.pc + 2) ∧
    Instr.jam02.entry.baseCycles = none := by decide

theorem witness_HaltedStepDoesNothing :
    ∃ s : State, s.halted = true ∧ s.Inv :=
  ⟨{ State.reset with halted := true, outcome := .halted, cycles := Config.jamCycles }, rfl, rfl, fun _ => ⟨rfl, rfl⟩⟩

theorem witness_InterruptsAreServicedAtTheBoundary :
    let nmi := (State.reset.setNmiLine true)
    let irq := (State.reset.setIrqLine true).setStatus 0x20
    (nmi.halted = false ∧ nmi.nmiPending = true) ∧
    (irq.halted = false ∧ irq.nmiPending = false ∧ irq.irqLine = true ∧ irq.flags.i = false) := by decide

/-- The conditions of `TrapTaken`: in plain memory and in the example of a host's map the vectors lie outside the frame, and so do the bytes
next to it and a byte of RAM whose mirrors are no part of it; a mirror of a frame byte does not. -/
theorem witness_TrapTaken :
    let s := place [] 0x8000 {} []
    let t := onExampleBus [] {} []
    (s.bus = [] ∧ outsideFrame s 0xFFFA ∧ outsideFrame s 0xFFFB ∧ outsideFrame s 0xFFFE ∧ outsideFrame s 0xFFFF ∧
      outsideFrame s 0x01FE ∧ outsideFrame s 0x01FA ∧ ¬ outsideFrame s 0x01FB) ∧
    (outsideFrame t 0xFFFE ∧ outsideFrame t 0xFFFF ∧ outsideFrame t 0x09FE ∧ ¬ outsideFrame t 0x09FD) := by
  unfold outsideFrame
  decide

theorem witness_NmiSequenceMasksIrq :
    let s := ((common 0xEA 0x20).setNmiLine true).setIrqLine true
    s.halted = false ∧ s.nmiPending = true ∧ step s = .next (after s) ∧ (after s).irqLine = true := ⟨rfl, rfl, rfl, rfl⟩

theorem witness_InterruptFlagActsAtTheNextBoundary :
    let s := State.reset.setIrqLine true
    s.halted = false ∧ s.nmiPending = false ∧ s.irqLine = true := by decide

/-- A BRK, an NMI and an IRQ to return from. -/
theorem witness_RtiUndoesATrapEntry :
    let nmi := (common 0xEA 0x20).setNmiLine true
    let irq := (common 0xEA 0x20).setIrqLine true
    (StackIsRam (common 0x00 0x20).bus ∧ ∃ t, exec .brk (common 0x00 0x20) = .next t) ∧
    (StackIsRam nmi.bus ∧ boundary nmi = .nmi ∧ step nmi = .next (after nmi)) ∧
    (StackIsRam irq.bus ∧ boundary irq = .irq ∧ step irq = .next (after irq)) :=
  ⟨⟨witness_StackIsRam.1, _, rfl⟩, ⟨witness_StackIsRam.1, rfl, rfl⟩, ⟨witness_StackIsRam.1, rfl, rfl⟩⟩

theorem witness_PowerOnState : (State.reset.bus = []) ∧ (exampleBus ≠ []) := by decide

/-- The last clauses of the line statement: the line already high; a rising edge from low. -/
theorem witness_InterruptLinesEdgeAndLevel :
    (State.reset.setNmiLine true).nmiLine = true ∧ State.reset.nmiLine = false := by decide

theorem witness_OnlyResetLeavesTheHaltedState :
    let s : State := { State.reset with halted := true }
    let events : List Event := [.step, .host (.setNmi true), .host (.setIrq true), .step]
    s.halted = true ∧ Event.host .reset ∉ events ∧
    ∀ e ∈ events, e = .step ∨ (∃ l, e = .host (.setNmi l)) ∨ ∃ l, e = .host (.setIrq l) := by
  refine ⟨rfl, by decide, ?_⟩
  intro e he
  simp only [List.mem_cons, List.not_mem_nil, or_false] at he
  rcases he with rfl | rfl | rfl | rfl
  · exact .inl rfl
  · exact .inr (.inl ⟨true, rfl⟩)
  · exact .inr (.inr ⟨true, rfl⟩)
  · exact .inl rfl

/-- An operation outside each flag's set. -/
theorem witness_FlagsOutsideTheDeclaredSetAreKept :
    writesN .STA = false ∧ writesV .LDA = false ∧ writesD .CLI = false ∧ writesI .SED = false ∧ writesZ .CLC = false ∧
    writesC .INC = false := by decide

theorem witness_BreakFlagIsTheHostsAlone :
    step State.reset = .next (after State.reset) ∧ ∀ p, HostAction.reset ≠ .writeStatus p := ⟨rfl, by decide⟩

theorem witness_DecimalFlagIsInert : touchesD (Instr.adcImm 0x01).entry.op = false ∧ touchesD (Instr.sbcImm 0x01).entry.op = false := by
  decide

/-- An instruction outside each register's list; a shift of memory and one of `A` fall on different sides. -/
theorem witness_RegistersAreWrittenOnlyAsListed :
    writesA (.aslZp 0x10) = false ∧ writesA .aslAcc = true ∧ writesX .LDY = false ∧ writesY .LDX = false ∧ writesS .TSX = false := by
  decide

/-- The neighbours of the stored byte, and any address under a load, which stores nothing. -/
theorem witness_MemoryChangesOnlyWhereStored :
    State.reset.bus = [] ∧
    (0x0011 : Addr) ∉ storedAddrs (.staZp 0x10) State.reset ∧ (0x000F : Addr) ∉ storedAddrs (.staZp 0x10) State.reset ∧
    (0x01FA : Addr) ∉ storedAddrs .brk State.reset ∧ storedAddrs (.ldaZp 0x10) State.reset = [] := by decide

/-- Under a host's map: an address that is no mirror of the stored one, and the stored address itself in a ROM. -/
theorem witness_MemoryChangesOnlyWhereStored_on_a_map :
    let s : State := { State.reset with bus := exampleBus }
    (∀ b ∈ storedAddrs (.staZp 0x10) s, s.bus.reaches b 0x0811 = false) ∧
    (∀ b ∈ storedAddrs (.staAbs 0x9000) s, s.bus.reaches b 0x9000 = false) := by
  have zp : storedAddrs (.staZp 0x10) { State.reset with bus := exampleBus } = [0x0010] := by decide
  have abs : storedAddrs (.staAbs 0x9000) { State.reset with bus := exampleBus } = [0x9000] := by decide
  simp only [zp, abs, List.forall_mem_singleton]
  decide

/-- Low byte plus index 255 crosses nothing and 256 crosses, in each of the three modes. -/
theorem witness_PageCrossingIsTheLowByteCarry :
    let s := place [] 0x8000 { x := 0x01, y := 0x01 } [(0x10, 0xFE), (0x20, 0xFF)]
    (resolve (.abx 0x20FE) s).crossed = false ∧ (resolve (.abx 0x20FF) s).crossed = true ∧
    (resolve (.aby 0x20FE) s).crossed = false ∧ (resolve (.aby 0x20FF) s).crossed = true ∧
    (resolve (.izy 0x10) s).crossed = false ∧ (resolve (.izy 0x20) s).crossed = true := by decide

theorem witness_PushThenPullIsTheIdentity :
    State.reset.bus = [] ∧ StackIsRam State.reset.bus ∧ State.reset.bus.plainAt 0x0100 ∧
    (onExampleBus [] {} []).bus.plainAt 0x0010 ∧ StackIsRam (onExampleBus [] {} []).bus ∧
    (State.reset.setSp 0x00).sp = 0x00 ∧ (State.reset.setSp 0xFF).sp = 0xFF ∧
    (0x01FE : Addr).toNat = 256 + (State.reset.sp.toNat + 1) % 256 ∧
    (0x0100 : Addr).toNat = 256 + ((State.reset.setSp 0xFF).sp.toNat + 1) % 256 :=
  ⟨rfl, witness_StackIsRam.1, ⟨rfl, rfl⟩, ⟨rfl, rfl⟩, witness_StackIsRam.2.1, rfl, rfl, rfl, rfl⟩

theorem witness_CanonicalMemoriesAreEqualIfTheyReadEqual :
    let m := Memory.write (Memory.write [] 9 3) 4 7
    Memory.wf m = true ∧ Memory.wf [(4, 7), (9, 3)] = true ∧ ∀ a : Nat, Memory.read m a = Memory.read [(4, 7), (9, 3)] a :=
  ⟨rfl, rfl, fun _ => rfl⟩

theorem witness_StepKeepsTheInvariant :
    let s := place [0xE6, 0x10] 0x8000 {} []
    s.Inv ∧ step s = .next (after s) := ⟨⟨rfl, fun h => nomatch h⟩, rfl⟩

theorem witness_ResetStatesHaveTheInvariant : Memory.wf [] = true ∧ Memory.wf [(0xFFFC, 0x34), (0xFFFD, 0x80)] = true := by decide

theorem witness_ReachableStatesAreCanonicalAndStep : Reachable State.reset :=
  Reachable.powerOn { a := 0, x := 0, y := 0, sp := 0, pc := 0, flags := Flags.ofByte 0x00 } [] 0 [] rfl

/-- Steps that are not halted: an instruction, a trap, an interrupt; and a map in which no address is written to the host's units. -/
theorem witness_BusActivityAgreesWithTheStep :
    (∀ a : Addr, State.reset.bus.target Window.writes a ≠ .device) ∧
    (after (common 0xEA 0x24)).outcome ≠ .halted ∧ (after (common 0x00 0x24)).outcome ≠ .halted ∧
    (after ((common 0xEA 0x20).setIrqLine true)).outcome ≠ .halted :=
  ⟨fun _ h => Target.noConfusion h, by decide, by decide, by decide⟩

theorem witness_ReadModifyWriteWritesTwice :
    (Instr.incAbx 0x20FF).entry.cls = .modify ∧ (Instr.incAbx 0x20FF).operand = .mem (.abx 0x20FF) ∧
    (Instr.sloIzy 0x10).entry.cls = .modify ∧ (Instr.sloIzy 0x10).operand = .mem (.izy 0x10) ∧
    State.reset.bus.plainAt (resolve (.abx 0x20FF) State.reset).ea := by decide

theorem witness_LoadResults :
    (Instr.ldaImm 0x10).entry.op = .LDA ∧ (Instr.ldxZpy 0x10).entry.op = .LDX ∧ (Instr.ldyAbx 0x1234).entry.op = .LDY := by decide

theorem witness_StoreResults :
    (Instr.staIzy 0x10).entry.op = .STA ∧ (Instr.staIzy 0x10).operand = .mem (.izy 0x10) ∧
    (Instr.stxZpy 0x10).entry.op = .STX ∧ (Instr.stxZpy 0x10).operand = .mem (.zpy 0x10) ∧
    (Instr.styAbs 0x1234).entry.op = .STY ∧ (Instr.styAbs 0x1234).operand = .mem (.abs 0x1234) ∧
    (Instr.saxIzx 0x10).entry.op = .SAX ∧ (Instr.saxIzx 0x10).operand = .mem (.izx 0x10) := by decide

theorem witness_TransferResults :
    Instr.tax.entry.op = .TAX ∧ Instr.tay.entry.op = .TAY ∧ Instr.txa.entry.op = .TXA ∧ Instr.tya.entry.op = .TYA ∧
    Instr.tsx.entry.op = .TSX ∧ Instr.txs.entry.op = .TXS := by decide

theorem witness_AddAndSubtractResults :
    (Instr.adcImm 0x10).entry.op = .ADC ∧ (Instr.sbcAbx 0x1234).entry.op = .SBC ∧ (Instr.usbc 0x10).entry.op = .USBC := by decide

theorem witness_LogicResults :
    (Instr.andImm 0x10).entry.op = .AND ∧ (Instr.oraZp 0x10).entry.op = .ORA ∧ (Instr.eorIzy 0x10).entry.op = .EOR := by decide

theorem witness_CompareAndBitResults :
    (Instr.cmpImm 0x10).entry.op = .CMP ∧ (Instr.cpxZp 0x10).entry.op = .CPX ∧ (Instr.cpyAbs 0x1234).entry.op = .CPY ∧
    (Instr.bitZp 0x10).entry.op = .BIT := by decide

theorem witness_ShiftResults :
    Instr.aslAcc.entry.op = .ASL ∧ (Instr.aslAbx 0x1234).entry.op = .ASL ∧ Instr.lsrAcc.entry.op = .LSR ∧
    (Instr.rolZp 0x10).entry.op = .ROL ∧ (Instr.rorAbs 0x1234).entry.op = .ROR := by decide

theorem witness_IncrementAndDecrementResults :
    (Instr.incZp 0x10).entry.op = .INC ∧ (Instr.decAbx 0x1234).entry.op = .DEC ∧ Instr.inx.entry.op = .INX ∧
    Instr.iny.entry.op = .INY ∧ Instr.dex.entry.op = .DEX ∧ Instr.dey.entry.op = .DEY := by decide

/-- All eight branches, one condition taken and one not, and the targets where the page changes and where the address wraps. -/
theorem witness_BranchResults :
    (Instr.bcc 0xFD).operand = .rel 0xFD ∧ (Instr.bcs 0x80).operand = .rel 0x80 ∧ (Instr.beq 0x7F).operand = .rel 0x7F ∧
    (Instr.bne 0x00).operand = .rel 0x00 ∧ (Instr.bmi 0x00).operand = .rel 0x00 ∧ (Instr.bpl 0x00).operand = .rel 0x00 ∧
    (Instr.bvc 0x00).operand = .rel 0x00 ∧ (Instr.bvs 0x00).operand = .rel 0x00 ∧
    branchCondition .BCC State.reset.flags = true ∧ branchCondition .BCS State.reset.flags = false := by decide

/-- The plain case, and the two in which a push lands on the operand byte that is read after it. -/
theorem witness_JsrResult :
    let s := place [0x20, 0x34, 0x12] 0x8000 {} []
    let high := place [0x20, 0x34, 0x12] 0x01FB { s := 0xFD } []
    let low := place [0x20, 0x34, 0x12] 0x01FB { s := 0xFE } []
    (s.bus = [] ∧ s.bus.plainAt (s.pc + 2) ∧ s.bus.reaches (stackAddr s.sp) (s.pc + 2) = false ∧
      s.bus.reaches (stackAddr (s.sp - 1)) (s.pc + 2) = false ∧ s.readMem (s.pc + 2) = hiByte 0x1234) ∧
    (high.bus.plainAt (high.pc + 2) ∧ high.pc + 2 = stackAddr high.sp) ∧
    (low.bus.plainAt (low.pc + 2) ∧ low.pc + 2 = stackAddr (low.sp - 1)) := by decide

theorem witness_RtsUndoesJsr :
    let s := place [0x20, 0x34, 0x12] 0x8000 {} []
    StackIsRam s.bus ∧ ∃ t, exec (.jsr 0x1234) s = .next t := ⟨witness_StackIsRam.1, _, rfl⟩

theorem witness_StackInstructionResults :
    Instr.pha.entry.op = .PHA ∧ Instr.php.entry.op = .PHP ∧ Instr.pla.entry.op = .PLA ∧ Instr.plp.entry.op = .PLP := by decide

theorem witness_FlagInstructionResults :
    Instr.clc.entry.op = .CLC ∧ Instr.sec.entry.op = .SEC ∧ Instr.cli.entry.op = .CLI ∧ Instr.sei.entry.op = .SEI ∧
    Instr.clv.entry.op = .CLV ∧ Instr.cld.entry.op = .CLD ∧ Instr.sed.entry.op = .SED := by decide

theorem witness_NopResults :
    Instr.nop.entry.op = .NOP ∧ (Instr.nopAbx1C 0x12FF).entry.op = .NOP ∧ (Instr.nopImm80 0x10).entry.op = .NOP := by decide

theorem witness_JamHalts : Instr.jam02.entry.op = .JAM ∧ Instr.jamF2.entry.op = .JAM := by decide

theorem witness_CombinedReadModifyWriteResults :
    (Instr.sloZp 0x10).entry.op = .SLO ∧ (Instr.rlaIzy 0x10).entry.op = .RLA ∧ (Instr.sreAby 0x1234).entry.op = .SRE ∧
    (Instr.rraIzx 0x10).entry.op = .RRA ∧ (Instr.dcpAbs 0x1234).entry.op = .DCP ∧ (Instr.iscAbx 0x1234).entry.op = .ISC := by decide

theorem witness_CombinedReadResults :
    (Instr.laxZpy 0x10).entry.op = .LAX ∧ (Instr.anc0B 0x10).entry.op = .ANC ∧ (Instr.anc2B 0x10).entry.op = .ANC ∧
    (Instr.alr 0x10).entry.op = .ALR ∧ (Instr.arr 0x10).entry.op = .ARR ∧ (Instr.sbx 0x10).entry.op = .SBX ∧
    (Instr.las 0x1234).entry.op = .LAS := by decide

theorem witness_UnstableImmediateResults : (State.reset.setA 0xFF).a = 0xFF ∧ (0x00 : Byte) = 0x00 := by decide

/-- Each store, with its index crossing a page and not. -/
theorem witness_UnstableStoreResults :
    let s := place [] 0x8000 { x := 0x01, y := 0x01 } [(0x10, 0xFF)]
    (Instr.shaIzy 0x10).entry.op = .SHA ∧ (Instr.shaIzy 0x10).operand = .mem (.izy 0x10) ∧ (resolve (.izy 0x10) s).crossed = true ∧
    (Instr.shx 0x12FE).entry.op = .SHX ∧ (Instr.shx 0x12FE).operand = .mem (.aby 0x12FE) ∧ (resolve (.aby 0x12FE) s).crossed = false ∧
    (Instr.shy 0x12FF).entry.op = .SHY ∧ (Instr.shy 0x12FF).operand = .mem (.abx 0x12FF) ∧ (resolve (.abx 0x12FF) s).crossed = true ∧
    (Instr.tas 0x12FE).entry.op = .TAS ∧ (Instr.tas 0x12FE).operand = .mem (.aby 0x12FE) := by decide

end Sys2Proof.Tests
end

section
/-! SUPPORT. The bus activity of a step against the step itself (spec/70_reset_and_hazards.md section 4): what replaying a list of bus
cycles does, and, rule by rule, that the listed cycles are those of the meaning. From it the statements of spec/00_scope.md: every step
succeeds, its bus activity is what it does, and every reachable state has the invariant. -/

namespace Sys2Proof.Machine

/-! ### Replaying a list of bus cycles -/

@[simp] theorem replay_nil (s : State) : replay [] s = s := rfl
@[simp] theorem replay_read (a : Addr) (dummy : Bool) (rest : List BusCycle) (s : State) :
    replay (.read a dummy :: rest) s = replay rest s := rfl
@[simp] theorem replay_write (a : Addr) (v : Byte) (dummy : Bool) (rest : List BusCycle) (s : State) :
    replay (.write a v dummy :: rest) s = replay rest (s.writeMem a v) := rfl

@[simp] theorem BusCycle.required_read (a : Addr) (dummy : Bool) : (BusCycle.read a dummy).required = !dummy := rfl
@[simp] theorem BusCycle.required_write (a : Addr) (v : Byte) (dummy : Bool) :
    (BusCycle.write a v dummy).required = !dummy := rfl

theorem replay_append (l l' : List BusCycle) (s : State) : replay (l ++ l') s = replay l' (replay l s) := by
  induction l generalizing s with
  | nil => rfl
  | cons c rest ih => cases c <;> exact ih _

/-- Replaying writes to the bus does not change the host's map. -/
@[simp] theorem replay_bus (l : List BusCycle) (s : State) : (replay l s).bus = s.bus := by
  induction l generalizing s with
  | nil => rfl
  | cons c rest ih => cases c <;> exact ih _

/-- Replaying writes to the bus keeps storage canonical. -/
theorem wf_replay (l : List BusCycle) (s : State) (h : Memory.wf s.mem = true) : Memory.wf (replay l s).mem = true := by
  induction l generalizing s with
  | nil => exact h
  | cons c rest ih =>
    cases c with
    | read a dummy => exact ih s h
    | write a v dummy => exact ih _ (State.wf_writeMem s a v h)

/-- A list of reads only. -/
def ReadsOnly (l : List BusCycle) : Prop := ∀ c ∈ l, ∃ a dummy, c = .read a dummy

@[simp] theorem readsOnly_nil : ReadsOnly [] := by simp [ReadsOnly]
@[simp] theorem readsOnly_cons (a : Addr) (dummy : Bool) (l : List BusCycle) :
    ReadsOnly (.read a dummy :: l) ↔ ReadsOnly l := by
  simp only [ReadsOnly, List.forall_mem_cons, BusCycle.read.injEq, exists_and_left, exists_eq', and_true, true_and]
@[simp] theorem readsOnly_append (l l' : List BusCycle) : ReadsOnly (l ++ l') ↔ ReadsOnly l ∧ ReadsOnly l' := by
  simp only [ReadsOnly, List.mem_append, or_imp, forall_and]

/-- Replaying reads changes nothing (R54). -/
theorem replay_of_readsOnly {l : List BusCycle} (reads : ReadsOnly l) (s : State) : replay l s = s := by
  induction l with
  | nil => rfl
  | cons c rest ih =>
    obtain ⟨a, dummy, rfl⟩ := reads c (by simp)
    exact ih ((readsOnly_cons a dummy rest).1 reads)

theorem ReadsOnly.filter {l : List BusCycle} (reads : ReadsOnly l) (p : BusCycle → Bool) : ReadsOnly (l.filter p) :=
  fun c hc => reads c (List.mem_of_mem_filter hc)

theorem ReadsOnly.write_notMem {l : List BusCycle} (reads : ReadsOnly l) (a : Addr) (v : Byte) (dummy : Bool) :
    BusCycle.write a v dummy ∉ l := by
  intro h
  obtain ⟨b, d, e⟩ := reads _ h
  cases e

/-- The replay of a list whose writes are all required is that of its required accesses. -/
theorem replay_filter_required {l : List BusCycle} (real : ∀ a v, BusCycle.write a v true ∉ l) (s : State) :
    replay (l.filter BusCycle.required) s = replay l s := by
  induction l generalizing s with
  | nil => rfl
  | cons c rest ih =>
    have tail : ∀ a v, BusCycle.write a v true ∉ rest := fun a v h => real a v (by simp [h])
    cases c with
    | read a dummy => cases dummy <;> simp [ih tail]
    | write a v dummy =>
      cases dummy with
      | false => simp [ih tail]
      | true => exact absurd (by simp) (real a v)

/-! ### The cycles before the data access -/

@[simp] theorem readsOnly_fixupCycle (always : Bool) (r : Resolved) : ReadsOnly (fixupCycle always r) := by
  unfold fixupCycle
  split <;> simp

@[simp] theorem readsOnly_addressCycles (m : MemOperand) (always : Bool) (s : State) : ReadsOnly (addressCycles m always s) := by
  cases m <;> simp [addressCycles]

@[simp] theorem length_fixupCycle (always : Bool) (r : Resolved) :
    (fixupCycle always r).length = extraCycle true (always || r.crossed) := by
  rw [fixupCycle, extraCycle, Bool.true_and]
  split <;> rfl

/-- The base count of a read-class instruction, which its mode decides (R331). -/
def readBase : MemOperand → Nat
  | .imm _ => 2
  | .zp _ => 3
  | .zpx _ | .zpy _ | .abs _ | .abx _ | .aby _ => 4
  | .izx _ => 6
  | .izy _ => 5

/-- The modes in which a read that crosses a page takes one more cycle (R115). -/
def readPenalty : MemOperand → Bool
  | .abx _ | .aby _ | .izy _ => true
  | _ => false

/-- The base count of a write-class instruction, which its mode decides: the cycle at the uncorrected address is always there (R362). -/
def writeBase : MemOperand → Nat
  | .imm _ => 2
  | .zp _ => 3
  | .zpx _ | .zpy _ | .abs _ => 4
  | .abx _ | .aby _ => 5
  | .izx _ | .izy _ => 6

theorem length_addressCycles_read (m : MemOperand) (s : State) :
    (addressCycles m false s).length + 2 = readBase m + extraCycle (readPenalty m) (resolve m s).crossed := by
  cases m <;> simp [addressCycles, readBase, readPenalty, extraCycle] <;> omega

theorem length_addressCycles_write (m : MemOperand) (s : State) :
    (addressCycles m true s).length + 2 = writeBase m := by
  cases m <;> simp [addressCycles, writeBase, extraCycle]

/-! ### What a list of bus cycles says of a step -/

/-- `t` has the host's bus of `s`: its map, its storage and the state of its units. -/
structure SameBus (s t : State) : Prop where
  bus : t.bus = s.bus
  mem : t.mem = s.mem
  devices : t.devices = s.devices

theorem SameBus.trans {s t u : State} (first : SameBus s t) (second : SameBus t u) : SameBus s u :=
  ⟨second.bus.trans first.bus, second.mem.trans first.mem, second.devices.trans first.devices⟩

theorem SameBus.writeMem {s t : State} (same : SameBus s t) (a : Addr) (v : Byte) :
    SameBus (s.writeMem a v) (t.writeMem a v) := by
  obtain ⟨bus, mem, devices⟩ := same
  constructor <;> simp [State.cellsAfter, State.devicesAfter, bus, mem, devices]

/-- `t` differs from `s` inside the core only, and not in `halted`: what every effect on registers and flags does. -/
structure CoreOnly (s t : State) : Prop extends SameBus s t where
  halted : t.halted = s.halted

theorem CoreOnly.writeMem {s t : State} (core : CoreOnly s t) (a : Addr) (v : Byte) :
    CoreOnly (s.writeMem a v) (t.writeMem a v) :=
  ⟨core.toSameBus.writeMem a v, core.halted⟩

theorem CoreOnly.retire {s t : State} (core : CoreOnly s t) (n c : Nat) : CoreOnly s (t.retire n c) :=
  ⟨core.toSameBus.trans ⟨rfl, rfl, rfl⟩, core.halted⟩

/-- The bus cycles `l` are those of a step from `s` to `t`: their writes give the bus of `t`, and their number is the count it reports
unless it halts; a step that halts the core reports so. -/
structure Performs (l : List BusCycle) (s t : State) : Prop where
  required : SameBus (replay (l.filter BusCycle.required) s) t
  all : (∀ a : Addr, s.bus.target Window.writes a ≠ .device) → SameBus (replay l s) t
  count : t.outcome ≠ .halted → t.cycles = BitVec.ofNat 32 l.length
  halts : t.halted = s.halted ∨ (t.halted = true ∧ t.outcome = .halted ∧ t.cycles = Config.jamCycles)

/-- The result `r` is a next state, and the bus cycles `l` are those of the step from `s` to it. -/
def Performed (r : Result) (l : List BusCycle) (s : State) : Prop := ∃ t, r = .next t ∧ Performs l s t

theorem Performed.of_cycles {r : Result} {l l' : List BusCycle} {s : State} (cycles : l = l') (performed : Performed r l' s) :
    Performed r l s := by
  rwa [cycles]

/-- A list without dummy writes needs one replay only. -/
theorem Performs.of_replay {l : List BusCycle} {s t : State} (real : ∀ a v, BusCycle.write a v true ∉ l)
    (bus : SameBus (replay l s) t) (count : t.cycles = BitVec.ofNat 32 l.length) (halted : t.halted = s.halted) :
    Performs l s t where
  required := by rwa [replay_filter_required real]
  all _ := bus
  count _ := count
  halts := .inl halted

/-- A list of reads belongs to a step that acts inside the core only. -/
theorem Performs.of_readsOnly {l : List BusCycle} {s t : State} (reads : ReadsOnly l) (core : CoreOnly s t)
    (count : t.cycles = BitVec.ofNat 32 l.length) : Performs l s t :=
  .of_replay (fun a v => reads.write_notMem a v true) ((replay_of_readsOnly reads s).symm ▸ core.toSameBus) count core.halted

/-! ### The rules the meanings share -/

theorem readRule_performs {m : MemOperand} {effect : Byte → State → State} {s : State}
    (core : ∀ v, CoreOnly s (effect v s)) :
    Performed (readRule m (readBase m) (readPenalty m) effect s) (readCycles m s) s := by
  refine ⟨_, rfl, .of_readsOnly ?_ ((core _).retire _ _) ?_⟩
  · simp [readCycles, opcodeCycle]
  · simp [readCycles, ← length_addressCycles_read]

/-- A store of `v` at `a` by an instruction of write class, whatever else it does inside the core. -/
theorem writeCycles_performs {m : MemOperand} {a : Addr} {v : Byte} {s t : State}
    (core : CoreOnly (s.writeMem a v) t) (count : t.cycles = BitVec.ofNat 32 (writeBase m)) :
    Performs (writeCycles m a v s) s t := by
  have front : ReadsOnly (opcodeCycle s :: addressCycles m true s) := by simp [opcodeCycle]
  refine .of_replay (fun b w => ?_) ?_ ?_ core.halted
  · simpa [writeCycles, opcodeCycle] using (readsOnly_addressCycles m true s).write_notMem b w true
  · rw [writeCycles, replay_append, replay_of_readsOnly front]
    exact core.toSameBus
  · simpa [writeCycles, ← length_addressCycles_write m s] using count

theorem writeRule_performs (m : MemOperand) (v : Byte) (s : State) :
    Performed (writeRule m (writeBase m) v s) (writeCycles m (resolve m s).ea v s) s :=
  ⟨_, rfl, writeCycles_performs ⟨⟨rfl, rfl, rfl⟩, rfl⟩ rfl⟩

/-- An unstable store; TAS sets `S` before it (R265), which neither its address nor its byte depends on. -/
theorem unstableRule_performs {m : MemOperand} {r : Byte} {s t : State} (core : CoreOnly s t) (addr : resolve m t = resolve m s) :
    Performed (unstableRule m (writeBase m) r t)
      (writeCycles m (unstableAddr r (resolve m s)) (unstableValue r (resolve m s)) s) s := by
  refine ⟨_, rfl, writeCycles_performs ?_ rfl⟩
  rw [addr]
  exact (core.writeMem _ _).retire _ _

/-- A read-modify-write: its dummy write is the one that storage does not show (R353). -/
theorem modifyRule_performs {m : MemOperand} {change : Byte → Byte} {effect : Byte → Byte → State → State} {s : State}
    (core : ∀ old new t, CoreOnly t (effect old new t)) :
    Performed (modifyRule m (writeBase m + 2) change effect s) (modifyCycles m change s) s := by
  have front : ReadsOnly (opcodeCycle s :: addressCycles m true s) := by simp [opcodeCycle]
  have stored := (core (operandByte m s) (change (operandByte m s))
    (s.writeMem (resolve m s).ea (change (operandByte m s)))).retire m.length (writeBase m + 2)
  refine ⟨_, rfl, ?_, fun storage => ?_, fun _ => ?_, .inl stored.halted⟩
  · rw [modifyCycles, List.filter_append, replay_append, replay_of_readsOnly (front.filter _)]
    exact stored.toSameBus
  · rw [modifyCycles, replay_append, replay_of_readsOnly front, replay_read, replay_write, replay_write, replay_nil,
      State.writeMem_writeMem (storage _)]
    exact stored.toSameBus
  · simp [modifyCycles, ← length_addressCycles_write m s]

theorem impliedRule_performs {s t : State} (core : CoreOnly s t) : Performed (impliedRule 2 t) (impliedCycles s) s :=
  ⟨_, rfl, .of_readsOnly (by simp [impliedCycles, opcodeCycle, idleCycle]) (core.retire _ _) rfl⟩

/-- A branch takes 2 cycles, one more when taken, one more again when the target lies in another page (R364). -/
theorem branchRule_performs (taken : Bool) (d : Byte) (s : State) :
    Performed (branchRule taken d s) (branchCycles (.rel d) taken s) s := by
  cases taken with
  | false => exact ⟨_, rfl, .of_readsOnly (by simp [branchCycles, opcodeCycle]) ⟨⟨rfl, rfl, rfl⟩, rfl⟩ rfl⟩
  | true =>
    refine ⟨_, rfl, .of_readsOnly ?_ ⟨⟨rfl, rfl, rfl⟩, rfl⟩ ?_⟩
    · simp only [branchCycles, if_true]
      split <;> simp [opcodeCycle]
    · simp only [branchCycles, State.retireAt_cycles]
      split <;> rfl

theorem pushRule_performs (v : Byte) (s : State) :
    Performed (impliedRule 3 (s.push v)) [opcodeCycle s, idleCycle s, .write (stackAddr s.sp) v false] s :=
  ⟨_, rfl, .of_replay (by simp [opcodeCycle, idleCycle]) ⟨rfl, rfl, rfl⟩ rfl rfl⟩

theorem jsrRule_performs (w : Addr) (s : State) : Performed (jsrRule w s) (jsrCycles s) s :=
  ⟨_, rfl, .of_replay (by simp [jsrCycles, opcodeCycle, stackRead]) ⟨rfl, rfl, rfl⟩ rfl rfl⟩

/-- Taking a trap after two reads: the three pushes of its frame, then its vector (R365). `u` is `s` but for what the core holds beside
`S` and the flags: an NMI clears its pending edge first. -/
theorem enterTrap_performs {front : List BusCycle} {s u : State} {w vector : Addr} {breakBit : Bool} {label : StepLabel}
    (reads : ReadsOnly front) (two : front.length = 2) (core : CoreOnly s u) (sp : u.sp = s.sp) (flags : u.flags = s.flags) :
    Performs (front ++ frameCycles w breakBit s ++ vectorCycles vector) s (u.enterTrap w breakBit vector label) := by
  have third : s.sp - 2 = s.sp - 1 - 1 := by bv_omega
  have pushed : SameBus (s.pushFrame w (pushedStatus s.flags breakBit)) (u.pushFrame w (pushedStatus u.flags breakBit)) := by
    rw [State.pushFrame, State.pushFrame, sp, flags]
    exact ((core.toSameBus.writeMem _ _).writeMem _ _).writeMem _ _
  refine .of_replay (fun a v => ?_) ?_ ?_ ?_
  · simp [frameCycles, vectorCycles, reads.write_notMem]
  · rw [replay_append, replay_append, replay_of_readsOnly reads, frameCycles, third, State.enterTrap_eq]
    exact ⟨pushed.bus, pushed.mem, pushed.devices⟩
  · simp [frameCycles, vectorCycles, two]
  · simp [core.halted]

/-- JAM halts the core after its opcode fetch and reports that (R245). -/
theorem jamRule_performs (s : State) : Performed (jamRule s) [opcodeCycle s] s :=
  ⟨_, rfl, ⟨rfl, rfl, rfl⟩, fun _ => ⟨rfl, rfl, rfl⟩, fun running => absurd rfl running, .inr ⟨rfl, rfl, rfl⟩⟩

/-! ### Every instruction and every step -/

/-- Every instruction completes, and its list of bus cycles is that of its meaning: one group for each rule of the meanings. Every effect
writes registers and flags only, so `CoreOnly` holds of it field by field. -/
theorem exec_performs (i : Instr) (s : State) : Performed (exec i s) (busActivity i s) s := by
  unfold exec
  cases i with
  | oraIzx | nopZp04 | oraZp | oraImm | anc0B | nopAbs0C | oraAbs | oraIzy | nopZpx14 | oraZpx | oraAby | nopAbx1C | oraAbx
  | andIzx | bitZp | andZp | andImm | anc2B | bitAbs | andAbs | andIzy | nopZpx34 | andZpx | andAby | nopAbx3C | andAbx
  | eorIzx | nopZp44 | eorZp | eorImm | alr | eorAbs | eorIzy | nopZpx54 | eorZpx | eorAby | nopAbx5C | eorAbx | adcIzx
  | nopZp64 | adcZp | adcImm | arr | adcAbs | adcIzy | nopZpx74 | adcZpx | adcAby | nopAbx7C | adcAbx | nopImm80 | nopImm82
  | nopImm89 | ane | ldyImm | ldaIzx | ldxImm | laxIzx | ldyZp | ldaZp | ldxZp | laxZp | ldaImm | lxa | ldyAbs | ldaAbs
  | ldxAbs | laxAbs | ldaIzy | laxIzy | ldyZpx | ldaZpx | ldxZpy | laxZpy | ldaAby | las | ldyAbx | ldaAbx | ldxAby
  | laxAby | cpyImm | cmpIzx | nopImmC2 | cpyZp | cmpZp | cmpImm | sbx | cpyAbs | cmpAbs | cmpIzy | nopZpxD4 | cmpZpx
  | cmpAby | nopAbxDC | cmpAbx | cpxImm | sbcIzx | nopImmE2 | cpxZp | sbcZp | sbcImm | usbc | cpxAbs | sbcAbs | sbcIzy
  | nopZpxF4 | sbcZpx | sbcAby | nopAbxFC | sbcAbx =>
    exact .of_cycles (by simp [busActivity, readOrImplied]) (readRule_performs fun _ => by exact ⟨⟨rfl, rfl, rfl⟩, rfl⟩)
  | staIzx | saxIzx | styZp | staZp | stxZp | saxZp | styAbs | staAbs | stxAbs | saxAbs | staIzy | styZpx | staZpx | stxZpy
  | saxZpy | staAby | staAbx =>
    exact .of_cycles (by simp [busActivity, storeCycles]) (writeRule_performs _ _ s)
  | shaIzy | tas | shy | shx | shaAby =>
    exact .of_cycles (by simp [busActivity, unstableCycles]) (unstableRule_performs (by exact ⟨⟨rfl, rfl, rfl⟩, rfl⟩) rfl)
  | sloIzx | aslZp | sloZp | aslAbs | sloAbs | sloIzy | aslZpx | sloZpx | sloAby | aslAbx | sloAbx | rlaIzx | rolZp | rlaZp
  | rolAbs | rlaAbs | rlaIzy | rolZpx | rlaZpx | rlaAby | rolAbx | rlaAbx | sreIzx | lsrZp | sreZp | lsrAbs | sreAbs
  | sreIzy | lsrZpx | sreZpx | sreAby | lsrAbx | sreAbx | rraIzx | rorZp | rraZp | rorAbs | rraAbs | rraIzy | rorZpx
  | rraZpx | rraAby | rorAbx | rraAbx | dcpIzx | decZp | dcpZp | decAbs | dcpAbs | dcpIzy | decZpx | dcpZpx | dcpAby
  | decAbx | dcpAbx | iscIzx | incZp | iscZp | incAbs | iscAbs | iscIzy | incZpx | iscZpx | iscAby | incAbx | iscAbx =>
    exact .of_cycles (by simp [busActivity, modifyOrImplied])
      (modifyRule_performs fun _ _ _ => by exact ⟨⟨rfl, rfl, rfl⟩, rfl⟩)
  | clc | nopImp1A | sec | nopImp3A | cli | nopImp5A | sei | nopImp7A | dey | txa | tya | txs | tay | tax | clv | tsx | iny
  | dex | cld | nopImpDA | inx | nop | sed | nopImpFA =>
    exact .of_cycles (by simp [busActivity, readOrImplied]) (impliedRule_performs (by exact ⟨⟨rfl, rfl, rfl⟩, rfl⟩))
  | aslAcc | rolAcc | lsrAcc | rorAcc =>
    exact .of_cycles (by simp [busActivity, modifyOrImplied]) (impliedRule_performs (by exact ⟨⟨rfl, rfl, rfl⟩, rfl⟩))
  | bpl | bmi | bvc | bvs | bcc | bcs | bne | beq =>
    exact .of_cycles (by simp [busActivity]) (branchRule_performs _ _ s)
  | jam02 | jam12 | jam22 | jam32 | jam42 | jam52 | jam62 | jam72 | jam92 | jamB2 | jamD2 | jamF2 =>
    exact .of_cycles (by simp [busActivity]) (jamRule_performs s)
  | pha | php => exact .of_cycles (by simp [busActivity]) (pushRule_performs _ s)
  | pla | plp | jmpAbs | jmpInd | rts | rti =>
    exact ⟨_, rfl, .of_readsOnly (by simp [busActivity, jumpCycles, opcodeCycle, idleCycle, stackRead])
      ⟨⟨rfl, rfl, rfl⟩, rfl⟩ (by simp [busActivity, jumpCycles])⟩
  | jsr w => exact .of_cycles (by simp [busActivity]) (jsrRule_performs w s)
  | brk =>
    exact .of_cycles (by simp [busActivity])
      ⟨_, rfl, enterTrap_performs (front := [opcodeCycle s, idleCycle s]) (by simp [opcodeCycle, idleCycle]) rfl
        ⟨⟨rfl, rfl, rfl⟩, rfl⟩ rfl rfl⟩

/-- Every step succeeds, and its list of bus cycles is that of what it does. -/
theorem step_performs (s : State) : Performed (step s) (stepBusActivity s) s := by
  rcases boundary_cases s with ⟨event, halted⟩ | ⟨event, -⟩ | ⟨event, -⟩ | ⟨event, -⟩ <;>
    simp only [step, stepBusActivity, event]
  · exact ⟨_, rfl, ⟨rfl, rfl, rfl⟩, fun _ => ⟨rfl, rfl, rfl⟩, fun running => absurd rfl running, .inr ⟨halted, rfl, rfl⟩⟩
  · exact ⟨_, rfl, enterTrap_performs (by simp) rfl ⟨⟨rfl, rfl, rfl⟩, rfl⟩ rfl rfl⟩
  · exact ⟨_, rfl, enterTrap_performs (by simp) rfl ⟨⟨rfl, rfl, rfl⟩, rfl⟩ rfl rfl⟩
  · exact exec_performs _ s

theorem performs_of_step {s t : State} (stepped : step s = .next t) : Performs (stepBusActivity s) s t := by
  obtain ⟨u, e, performs⟩ := step_performs s
  obtain rfl : u = t := by simpa [stepped, eq_comm] using e
  exact performs

/-! ### The invariant -/

/-- A step that ends in a halted core reports `(Halted, JAM_CYCLES)` (R245, R302). -/
theorem step_halted {s t : State} (stepped : step s = .next t) (halted : t.halted = true) :
    t.outcome = .halted ∧ t.cycles = Config.jamCycles := by
  rcases (performs_of_step stepped).halts with kept | ⟨-, reported⟩
  · have before : boundary s = .halted := by simp [boundary, ← kept, halted]
    obtain rfl : haltedStep s = t := by simpa [step, before] using stepped
    exact ⟨rfl, rfl⟩
  · exact reported

/-- A step keeps storage canonical: it does no more to it than the writes of its bus cycles. -/
theorem wf_step {s t : State} (stepped : step s = .next t) (h : Memory.wf s.mem = true) : Memory.wf t.mem = true := by
  rw [(performs_of_step stepped).required.mem]
  exact wf_replay _ s h

theorem State.Inv.step {s t : State} (inv : s.Inv) (stepped : Machine.step s = .next t) : t.Inv :=
  ⟨wf_step stepped inv.1, step_halted stepped⟩

theorem powerOn_inv (draw : PowerOnDraw) (bus : BusMap) (devices : Nat) (mem : Memory) (canonical : Memory.wf mem = true) :
    (powerOn draw bus devices mem).Inv :=
  ⟨canonical, fun halted => nomatch halted⟩

/-- Of the host's actions only Reset and `storeByte` touch what the invariant speaks of. -/
theorem State.Inv.hostAct {s : State} (inv : s.Inv) (act : HostAction) : (hostAct act s).Inv := by
  cases act with
  | reset => exact ⟨inv.1, fun halted => nomatch halted⟩
  | storeByte a v => exact ⟨Memory.wf_write _ _ _ inv.1 a.isLt, inv.2⟩
  | setNmi | setIrq | writeA | writeX | writeY | writeS | writePC | writeStatus | setBus | setDevices => exact inv

/-- The invariant holds at power-on, and every step and host action keeps it. -/
theorem Reachable.inv {s : State} (reachable : Reachable s) : s.Inv := by
  induction reachable with
  | powerOn draw bus devices mem canonical => exact powerOn_inv draw bus devices mem canonical
  | step _ stepped ih => exact ih.step stepped
  | host _ act ih => exact ih.hostAct act

/-! ### The statements -/

/-- Settles O35: the invariant by induction over the session, the step by O6. -/
theorem reachableStatesAreCanonicalAndStep : Obligations.ReachableStatesAreCanonicalAndStep := by
  intro s reachable
  obtain ⟨t, stepped, -⟩ := step_performs s
  exact ⟨reachable.inv, t, stepped, reachable.step stepped⟩

/-- Settles O6: each kind of step, and each instruction, ends in a next state. -/
theorem everyStepSucceeds : Obligations.EveryStepSucceeds := by
  intro s
  obtain ⟨t, stepped, -⟩ := step_performs s
  exact ⟨t, stepped⟩

/-- Settles O36: the bus cycles of a step are those of what it does, rule by rule. -/
theorem busActivityAgreesWithTheStep : Obligations.BusActivityAgreesWithTheStep := by
  intro s
  obtain ⟨t, stepped, performs⟩ := step_performs s
  have same {r : State} (bus : SameBus r t) : r.mem = t.mem ∧ r.devices = t.devices := ⟨bus.mem.symm, bus.devices.symm⟩
  exact ⟨t, stepped, performs.required.bus.trans (replay_bus _ s), performs.count, same performs.required,
    fun storage => same (performs.all storage)⟩

end Sys2Proof.Machine
end

section
/-! SUPPORT. The state the instructions may touch (spec/10_state.md): the frame of every instruction over the flags (R34), the registers
(R41) and the hidden state (R36), rule by rule; what a step does with the last result (R37) and with the Decimal flag (R31); the
status byte (R26, R27); the states after reset (R42). -/

namespace Sys2Proof.Machine

open Sys2Proof.Claims

/-! ### The frame of an instruction -/

/-- `new` differs from `old` only if it may be written. With `written` known, both cases hold by computation. -/
def KeptUnless {α : Type} (written : Bool) (old new : α) : Prop := new = bif written then new else old

theorem KeptUnless.kept {α : Type} {written : Bool} {old new : α} (frame : KeptUnless written old new) (outside : written = false) :
    new = old := by
  subst outside
  exact frame

/-- From `s` to `t` only what the tables of R34 and R41 list for the operation `op` is written, `inA` telling whether `A` is; of the
hidden state only `halted`, by JAM (R36, R245). -/
structure Frame (op : Operation) (inA : Bool) (s t : State) : Prop where
  flagN : KeptUnless (writesN op) s.flags.n t.flags.n
  flagV : KeptUnless (writesV op) s.flags.v t.flags.v
  flagB : t.flags.b = s.flags.b
  flagD : KeptUnless (writesD op) s.flags.d t.flags.d
  flagI : KeptUnless (writesI op) s.flags.i t.flags.i
  flagZ : KeptUnless (writesZ op) s.flags.z t.flags.z
  flagC : KeptUnless (writesC op) s.flags.c t.flags.c
  a : KeptUnless inA s.a t.a
  x : KeptUnless (writesX op) s.x t.x
  y : KeptUnless (writesY op) s.y t.y
  sp : KeptUnless (writesS op) s.sp t.sp
  irqLine : t.irqLine = s.irqLine
  nmiLine : t.nmiLine = s.nmiLine
  nmiPending : t.nmiPending = s.nmiPending
  bus : t.bus = s.bus
  halted : t.halted = if op = .JAM then true else s.halted

/-- The result `r` is a next state, within the frame of `op`. -/
def Framed (op : Operation) (inA : Bool) (s : State) (r : Result) : Prop := ∃ t, r = .next t ∧ Frame op inA s t

section Rules

variable {op : Operation} {inA : Bool} {s t : State}

theorem Frame.retire (frame : Frame op inA s t) (n c : Nat) : Frame op inA s (t.retire n c) := { frame with }

theorem Frame.retireAt (frame : Frame op inA s t) (w : Addr) (c : Nat) : Frame op inA s (t.retireAt w c) := { frame with }

theorem readRule_framed {effect : Byte → State → State} (frame : ∀ v, Frame op inA s (effect v s)) (m : MemOperand) (base : Nat)
    (penalty : Bool) : Framed op inA s (readRule m base penalty effect s) :=
  ⟨_, rfl, (frame _).retire _ _⟩

theorem writeRule_framed (frame : ∀ a v, Frame op inA s (s.writeMem a v)) (m : MemOperand) (base : Nat) (v : Byte) :
    Framed op inA s (writeRule m base v s) :=
  ⟨_, rfl, (frame _ _).retire _ _⟩

/-- The store acts on `t`, since TAS sets `S` before it (R265). -/
theorem unstableRule_framed (frame : ∀ a v, Frame op inA s (t.writeMem a v)) (m : MemOperand) (base : Nat) (r : Byte) :
    Framed op inA s (unstableRule m base r t) :=
  ⟨_, rfl, (frame _ _).retire _ _⟩

theorem modifyRule_framed {effect : Byte → Byte → State → State}
    (frame : ∀ a old new, Frame op inA s (effect old new (s.writeMem a new))) (m : MemOperand) (base : Nat)
    (change : Byte → Byte) : Framed op inA s (modifyRule m base change effect s) :=
  ⟨_, rfl, (frame _ _ _).retire _ _⟩

theorem impliedRule_framed (frame : Frame op inA s t) (cycles : Nat) : Framed op inA s (impliedRule cycles t) :=
  ⟨_, rfl, frame.retire _ _⟩

theorem accumulatorRule_framed {effect : Byte → Byte → State → State}
    (frame : ∀ old new, Frame op inA s (effect old new (s.setA new))) (new : Byte) :
    Framed op inA s (accumulatorRule new effect s) :=
  ⟨_, rfl, (frame _ _).retire _ _⟩

theorem branchRule_framed (frame : Frame op inA s s) (taken : Bool) (d : Byte) : Framed op inA s (branchRule taken d s) := by
  cases taken <;> exact ⟨_, rfl, frame.retireAt _ _⟩

theorem jsrRule_framed (frame : ∀ w, Frame op inA s (s.pushAddr w)) (w : Addr) : Framed op inA s (jsrRule w s) :=
  ⟨_, rfl, (frame _).retireAt _ _⟩

end Rules

theorem enterTrap_frame (s : State) (w : Addr) (breakBit : Bool) (vector : Addr) (label : StepLabel) :
    Frame .BRK false s (s.enterTrap w breakBit vector label) := by
  rw [State.enterTrap_eq]
  constructor <;> rfl

theorem returnFromTrap_frame (s : State) : Frame .RTI false s s.returnFromTrap := by
  constructor <;> simp [KeptUnless, writesN, writesV, writesD, writesI, writesZ, writesC, writesX, writesY, writesS]

/-- Every instruction completes within its frame, one group for each rule of the meanings. With the operation of its row known, each
field of an effect is the field it started from or one the operation may write. -/
theorem exec_framed (i : Instr) (s : State) : Framed i.entry.op (writesA i) s (exec i s) := by
  unfold exec
  generalize row : i.entry.op = op
  generalize listed : writesA i = inA
  cases i
  all_goals
    simp [writesA] at row listed
    subst row listed
  case oraIzx | nopZp04 | oraZp | oraImm | anc0B | nopAbs0C | oraAbs | oraIzy | nopZpx14 | oraZpx | oraAby | nopAbx1C
    | oraAbx | andIzx | bitZp | andZp | andImm | anc2B | bitAbs | andAbs | andIzy | nopZpx34 | andZpx | andAby
    | nopAbx3C | andAbx | eorIzx | nopZp44 | eorZp | eorImm | alr | eorAbs | eorIzy | nopZpx54 | eorZpx | eorAby
    | nopAbx5C | eorAbx | adcIzx | nopZp64 | adcZp | adcImm | arr | adcAbs | adcIzy | nopZpx74 | adcZpx | adcAby
    | nopAbx7C | adcAbx | nopImm80 | nopImm82 | nopImm89 | ane | ldyImm | ldaIzx | ldxImm | laxIzx | ldyZp | ldaZp
    | ldxZp | laxZp | ldaImm | lxa | ldyAbs | ldaAbs | ldxAbs | laxAbs | ldaIzy | laxIzy | ldyZpx | ldaZpx | ldxZpy
    | laxZpy | ldaAby | las | ldyAbx | ldaAbx | ldxAby | laxAby | cpyImm | cmpIzx | nopImmC2 | cpyZp | cmpZp | cmpImm
    | sbx | cpyAbs | cmpAbs | cmpIzy | nopZpxD4 | cmpZpx | cmpAby | nopAbxDC | cmpAbx | cpxImm | sbcIzx | nopImmE2
    | cpxZp | sbcZp | sbcImm | usbc | cpxAbs | sbcAbs | sbcIzy | nopZpxF4 | sbcZpx | sbcAby | nopAbxFC | sbcAbx =>
    exact readRule_framed (fun _ => by constructor <;> rfl) _ _ _
  case staIzx | saxIzx | styZp | staZp | stxZp | saxZp | styAbs | staAbs | stxAbs | saxAbs | staIzy | styZpx | staZpx
    | stxZpy | saxZpy | staAby | staAbx =>
    exact writeRule_framed (fun _ _ => by constructor <;> rfl) _ _ _
  case shaIzy | tas | shy | shx | shaAby =>
    exact unstableRule_framed (fun _ _ => by constructor <;> rfl) _ _ _
  case sloIzx | aslZp | sloZp | aslAbs | sloAbs | sloIzy | aslZpx | sloZpx | sloAby | aslAbx | sloAbx | rlaIzx | rolZp
    | rlaZp | rolAbs | rlaAbs | rlaIzy | rolZpx | rlaZpx | rlaAby | rolAbx | rlaAbx | sreIzx | lsrZp | sreZp | lsrAbs
    | sreAbs | sreIzy | lsrZpx | sreZpx | sreAby | lsrAbx | sreAbx | rraIzx | rorZp | rraZp | rorAbs | rraAbs | rraIzy
    | rorZpx | rraZpx | rraAby | rorAbx | rraAbx | dcpIzx | decZp | dcpZp | decAbs | dcpAbs | dcpIzy | decZpx | dcpZpx
    | dcpAby | decAbx | dcpAbx | iscIzx | incZp | iscZp | incAbs | iscAbs | iscIzy | incZpx | iscZpx | iscAby | incAbx
    | iscAbx =>
    exact modifyRule_framed (fun _ _ _ => by constructor <;> rfl) _ _ _
  case php | clc | nopImp1A | plp | sec | nopImp3A | pha | cli | nopImp5A | pla | sei | nopImp7A | dey | txa | tya
    | txs | tay | tax | clv | tsx | iny | dex | cld | nopImpDA | inx | nop | sed | nopImpFA =>
    exact impliedRule_framed (by constructor <;> rfl) _
  case aslAcc | rolAcc | lsrAcc | rorAcc =>
    exact accumulatorRule_framed (fun _ _ => by constructor <;> rfl) _
  case bpl | bmi | bvc | bvs | bcc | bcs | bne | beq =>
    exact branchRule_framed (by constructor <;> rfl) _ _
  case jsr =>
    exact jsrRule_framed (fun _ => by constructor <;> rfl) _
  case jam02 | jam12 | jam22 | jam32 | jam42 | jam52 | jam62 | jam72 | jam92 | jamB2 | jamD2 | jamF2 =>
    exact ⟨_, rfl, by constructor <;> rfl⟩
  case jmpAbs | jmpInd | rts =>
    exact ⟨_, rfl, .retireAt (by constructor <;> rfl) _ _⟩
  case brk => exact ⟨_, rfl, enterTrap_frame ..⟩
  case rti => exact ⟨_, rfl, returnFromTrap_frame s⟩

/-- Settles O22 from the frame of the instruction. -/
theorem flagsOutsideTheDeclaredSetAreKept : Obligations.FlagsOutsideTheDeclaredSetAreKept := by
  intro i s
  obtain ⟨t, completes, frame⟩ := exec_framed i s
  exact ⟨t, completes, frame.flagN.kept, frame.flagV.kept, frame.flagB, frame.flagD.kept, frame.flagI.kept, frame.flagZ.kept,
    frame.flagC.kept⟩

/-- Settles O25 from the frame of the instruction. -/
theorem registersAreWrittenOnlyAsListed : Obligations.RegistersAreWrittenOnlyAsListed := by
  intro i s
  obtain ⟨t, completes, frame⟩ := exec_framed i s
  exact ⟨t, completes, frame.a.kept, frame.x.kept, frame.y.kept, frame.sp.kept⟩

/-- Settles O26 from the frame of the instruction. -/
theorem hiddenStateIsKeptByInstructions : Obligations.HiddenStateIsKeptByInstructions := by
  intro i s
  obtain ⟨t, completes, frame⟩ := exec_framed i s
  exact ⟨t, completes, frame.irqLine, frame.nmiLine, frame.nmiPending, frame.bus, frame.halted⟩

/-! ### The stored Break flag -/

/-- A halted step and the two interrupts write no flag but `I`; an instruction keeps `B` by its frame. -/
theorem step_flagB {s t : State} (stepped : step s = .next t) : t.flags.b = s.flags.b := by
  rcases step_cases stepped with ⟨-, e⟩ | ⟨-, -, e⟩ | ⟨-, -, -, -, e⟩ | ⟨-, -, -, e⟩
  · cases e
    rfl
  · cases e
    simp [serviceNmi]
  · cases e
    simp [serviceIrq]
  · obtain ⟨u, completes, frame⟩ := exec_framed s.fetchInstr s
    obtain rfl : t = u := by simpa [completes] using e
    exact frame.flagB

/-- Settles O23: the steps by `step_flagB`; of the host's actions only the write of the status byte puts another `B`. -/
theorem breakFlagIsTheHostsAlone : Obligations.BreakFlagIsTheHostsAlone := by
  refine ⟨fun s t => step_flagB, fun s act other => ?_⟩
  cases act with
  | writeStatus p => exact absurd rfl (other p)
  | reset | setNmi | setIrq | writeA | writeX | writeY | writeS | writePC | storeByte | setBus | setDevices => rfl

/-! ### The last result -/

/-- `s` with another last result: the cycle accumulator and the outcome label. -/
def State.withReport (c : CycleCount) (label : StepLabel) (s : State) : State := { s with cycles := c, outcome := label }

/-- Every meaning writes its own count and label and reads neither. -/
theorem exec_withReport (i : Instr) (c : CycleCount) (label : StepLabel) (s : State) :
    exec i (s.withReport c label) = exec i s := by
  cases i <;> rfl

/-- Settles O9: neither the boundary check nor the fetch reads the last result, and each of the four kinds of step writes its own. -/
theorem cycleAccumulatorCarriesNothing : Obligations.CycleAccumulatorCarriesNothing := by
  intro s c label
  have sameBoundary : boundary (s.withReport c label) = boundary s := rfl
  have sameFetch : (s.withReport c label).fetchInstr = s.fetchInstr := rfl
  change step (s.withReport c label) = step s
  rw [step, step, sameBoundary, sameFetch, exec_withReport]
  cases boundary s <;> rfl

/-! ### The Decimal flag -/

/-- Whichever way it goes, a branch neither reads nor writes `D`. -/
theorem branchRule_withD (taken : Bool) (displacement : Byte) (d : Bool) (s : State) :
    branchRule taken displacement (withD d s) = mapNext (withD d) (branchRule taken displacement s) := by
  cases taken <;> rfl

/-- Settles O24: six operations touch `D`; the meaning of every other computes without it and carries it along. -/
theorem decimalFlagIsInert : Obligations.DecimalFlagIsInert := by
  intro i s d inert
  cases i with
  | sed | cld | plp | rti | php | brk => exact absurd inert (by decide)
  | bpl | bmi | bvc | bvs | bcc | bcs | bne | beq => exact branchRule_withD _ _ d s
  | _ => rfl

/-! ### The status byte -/

/-- The layout of the status byte (R26). -/
theorem Flags.getLsbD_toByte (f : Flags) :
    f.toByte.getLsbD 7 = f.n ∧ f.toByte.getLsbD 6 = f.v ∧ f.toByte.getLsbD 5 = true ∧ f.toByte.getLsbD 4 = f.b ∧
    f.toByte.getLsbD 3 = f.d ∧ f.toByte.getLsbD 2 = f.i ∧ f.toByte.getLsbD 1 = f.z ∧ f.toByte.getLsbD 0 = f.c := by
  obtain ⟨n, v, b, d, i, z, c⟩ := f
  revert n v b d i z c
  decide

/-- Writing a byte to the status and reading it back sets bit 5 and keeps the others (R27). -/
theorem Flags.toByte_ofByte (p : Byte) : (Flags.ofByte p).toByte = p ||| 0x20 := by
  apply BitVec.eq_of_getLsbD_eq
  intro k below
  interval_cases k <;> simp only [Flags.getLsbD_toByte, BitVec.getLsbD_or] <;> simp [Flags.ofByte]

/-- Settles O21 from the layout of the status byte. -/
theorem statusByteLayoutAndRoundTrip : Obligations.StatusByteLayoutAndRoundTrip := by
  intro s p
  obtain ⟨n, v, one, b, d, i, z, c⟩ := s.flags.getLsbD_toByte
  exact ⟨n, v, one, b, d, i, z, c, Flags.toByte_ofByte p, rfl⟩

/-! ### Reset and power-on -/

/-- Settles O18: each field after the Reset sequence over the drawn state; on the empty map the vector is read from storage. -/
theorem powerOnState : Obligations.PowerOnState := by
  intro draw bus devices mem
  refine ⟨rfl, rfl, rfl, rfl, rfl, fun plain => ?_, rfl, rfl, rfl, rfl, rfl, rfl, rfl, rfl, rfl⟩
  subst plain
  rfl

/-- Settles O34: `State.reset` is a power-on over empty storage. -/
theorem resetStatesHaveTheInvariant : Obligations.ResetStatesHaveTheInvariant := by
  refine ⟨?_, powerOn_inv⟩
  rw [reset_eq_powerOn]
  exact powerOn_inv _ _ _ _ rfl

end Sys2Proof.Machine
end

section
/-! SUPPORT. Storage, the stack and the invariant as statements (spec/20_memory.md R53, R57, R58, R63): memory in canonical form is fixed
by what it reads as, a pull undoes a push, and a step keeps the invariant. -/

namespace Sys2Proof.Machine

open Sys2Proof.Claims

/-! ### The invariant -/

/-- Settles O33: storage by `wf_step`, the report of a halted core by `step_halted`. -/
theorem stepKeepsTheInvariant : Obligations.StepKeepsTheInvariant :=
  fun _ _ inv stepped => inv.step stepped

/-! ### Memories that read equal -/

theorem Memory.read_of_absent {m : Memory} {a : Nat} (absent : ∀ cell ∈ m, cell.1 ≠ a) : Memory.read m a = Memory.unlisted := by
  rw [← Memory.erase_of_absent m a absent, Memory.read_erase, if_pos rfl]

@[simp] theorem Memory.read_cons_self (cell : Host.Cell) (rest : Memory) : Memory.read (cell :: rest) cell.1 = cell.2 :=
  if_pos rfl

theorem Memory.read_head_ne_unlisted {cell : Host.Cell} {rest : Memory} (canonical : Memory.wf (cell :: rest) = true) :
    Memory.read (cell :: rest) cell.1 ≠ Memory.unlisted := by
  obtain ⟨-, listed, -, -⟩ := (Memory.wf_cons _ _).1 canonical
  rwa [Memory.read_cons_self]

/-- In canonical form the first address stands nowhere else, so erasing it leaves the rest. -/
theorem Memory.erase_head {cell : Host.Cell} {rest : Memory} (canonical : Memory.wf (cell :: rest) = true) :
    Memory.erase (cell :: rest) cell.1 = rest := by
  obtain ⟨-, -, rising, -⟩ := (Memory.wf_cons _ _).1 canonical
  rw [Memory.erase, if_pos rfl, Memory.erase_of_absent _ _ fun later inRest => (rising later inRest).ne']

/-- A canonical memory lists no address before its first, so there it reads as unlisted. -/
theorem Memory.head_le_of_read {cell : Host.Cell} {rest : Memory} (canonical : Memory.wf (cell :: rest) = true) {a : Nat}
    (listed : Memory.read (cell :: rest) a ≠ Memory.unlisted) : cell.1 ≤ a := by
  obtain ⟨-, -, rising, -⟩ := (Memory.wf_cons _ _).1 canonical
  by_contra! below
  refine listed (Memory.read_of_absent fun c inMemory => ?_)
  rcases List.mem_cons.1 inMemory with rfl | inRest
  · exact below.ne'
  · exact (below.trans (rising c inRest)).ne'

/-- Canonical memories that read equal start at one address: the first of each is listed in the other. -/
theorem Memory.head_le_head {cell₁ cell₂ : Host.Cell} {rest₁ rest₂ : Memory} (canonical₁ : Memory.wf (cell₁ :: rest₁) = true)
    (canonical₂ : Memory.wf (cell₂ :: rest₂) = true)
    (same : ∀ a, Memory.read (cell₁ :: rest₁) a = Memory.read (cell₂ :: rest₂) a) : cell₁.1 ≤ cell₂.1 :=
  Memory.head_le_of_read canonical₁ (same cell₂.1 ▸ Memory.read_head_ne_unlisted canonical₂)

/-- Settles O32: the first cells agree, and erasing their address leaves two shorter memories that read equal. -/
theorem canonicalMemoriesAreEqualIfTheyReadEqual : Obligations.CanonicalMemoriesAreEqualIfTheyReadEqual := by
  intro m₁
  induction m₁ with
  | nil =>
    rintro (_ | ⟨cell, rest⟩) - canonical same
    · rfl
    · exact absurd (same cell.1).symm (Memory.read_head_ne_unlisted canonical)
  | cons cell₁ rest₁ ih =>
    rintro (_ | ⟨cell₂, rest₂⟩) canonical₁ canonical₂ same
    · exact absurd (same cell₁.1) (Memory.read_head_ne_unlisted canonical₁)
    · obtain ⟨-, -, -, canonicalRest₁⟩ := (Memory.wf_cons _ _).1 canonical₁
      obtain ⟨-, -, -, canonicalRest₂⟩ := (Memory.wf_cons _ _).1 canonical₂
      have address : cell₁.1 = cell₂.1 :=
        (Memory.head_le_head canonical₁ canonical₂ same).antisymm
          (Memory.head_le_head canonical₂ canonical₁ fun a => (same a).symm)
      have byte : cell₁.2 = cell₂.2 := by
        rw [← Memory.read_cons_self cell₁ rest₁, same, address, Memory.read_cons_self]
      have rests : rest₁ = rest₂ := ih rest₂ canonicalRest₁ canonicalRest₂ fun a => by
        rw [← Memory.erase_head canonical₁, ← Memory.erase_head canonical₂, Memory.read_erase, Memory.read_erase, address, same]
      rw [Prod.ext address byte, rests]

/-! ### Push and pull -/

theorem eq_stackAddr_iff {a : Addr} {k : Byte} : a = stackAddr k ↔ a.toNat = 256 + k.toNat := by
  rw [← stackAddr_toNat, BitVec.toNat_inj]

/-- Where the stack page is RAM, a pull reads the byte just pushed: it raises `S` back to the address of the push (R57, R58). -/
theorem State.pullByte_push {s : State} (stack : StackIsRam s.bus) (v : Byte) : (s.push v).pullByte = v := by
  rw [State.pullByte, State.push_sp, BitVec.sub_add_cancel, State.readMem_push_of_plain stack (stack _), if_pos rfl]

/-- Settles O31: the addresses in numbers by `eq_stackAddr_iff`, the stack in RAM by the read after a push. -/
theorem pushThenPullIsTheIdentity : Obligations.PushThenPullIsTheIdentity := by
  intro s v
  refine ⟨stackAddr_toNat s.sp, rfl, rfl, fun a address => ?pullAddress, BitVec.sub_add_cancel _ _, fun bottom => ?pushWraps,
    fun top => ?pullWraps, fun stack => ⟨State.pullByte_push stack v, fun bottom => ?bottomByte⟩, fun stack a plain => ?kept,
    fun plain => ?plainMemory⟩
  case pullAddress =>
    obtain rfl : a = stackAddr (s.sp + 1) := eq_stackAddr_iff.2 (by rw [address, BitVec.toNat_add]; rfl)
    rfl
  case pushWraps =>
    rw [State.push_sp, bottom]
    rfl
  case pullWraps =>
    rw [State.pullByte, State.pulled_sp, top]
    exact ⟨rfl, rfl⟩
  case bottomByte =>
    have address : (0x0100 : Addr) = stackAddr s.sp := by rw [bottom]; rfl
    rw [address, State.readMem_push_of_plain stack (stack _), if_pos rfl]
  case kept =>
    rw [State.readMem_push_of_plain stack plain]
    simp only [eq_stackAddr_iff]
  case plainMemory =>
    rw [plain]
    exact ⟨fun k => BusMap.plainAt_nil _, BusMap.plainAt_nil⟩

end Sys2Proof.Machine
end

section
/-! SUPPORT. Decoding and encoding as statements (spec/30_encoding.md R80 to R89): `decode` said once, by whether the operand bytes
that the table asks for are there; from it the two round trips and the refusal of a short string. -/

namespace Sys2Proof

open Laws

/-! ### What the decoder answers -/

/-- With its operand bytes there, an opcode is read together with them, and the rest is left (R84, R85). -/
theorem decode_of_operandBytes_le {o : Byte} {rest : List Byte} (enough : operandBytes o ≤ rest.length) :
    decode (o :: rest) = .instr
      (decodeOpcode o ((rest.take (operandBytes o)).getD 0 0) ((rest.take (operandBytes o)).getD 1 0))
      (rest.drop (operandBytes o)) := by
  simp only [decode, operandBytes] at enough ⊢
  generalize (opcodeTable o).mode.format = format at enough ⊢
  match format, rest, enough with
  | .F1, _, _ => rfl
  | .F2, _ :: _, _ => rfl
  | .F3, _ :: _ :: _, _ => rfl

/-- A string that ends before the operand bytes do is refused (R84, R89). -/
theorem decode_of_lt_operandBytes {o : Byte} {rest : List Byte} (short : rest.length < operandBytes o) :
    decode (o :: rest) = .refused (.truncated o) := by
  simp only [decode, operandBytes] at short ⊢
  generalize (opcodeTable o).mode.format = format at short ⊢
  match format, rest, short with
  | .F2, [], _ => rfl
  | .F3, [], _ => rfl
  | .F3, [_], _ => rfl

/-! ### Operand bytes -/

theorem length_operand_bytes (i : Instr) : i.operand.bytes.length = operandBytes i.opcode := by
  have total := length_encode i
  rw [encode, List.length_cons, Instr.length] at total
  omega

/-- Of two bytes, the operand of a mode holds as many as the mode takes (R84, R85). -/
theorem bytes_operandOfBytes (m : Mode) (b1 b2 : Byte) :
    (operandOfBytes m b1 b2).bytes = [b1, b2].take m.format.operandBytes := by
  cases m <;> simp [operandOfBytes, Operand.bytes, Mode.format, Format.operandBytes]

/-- Encoding what was read from an opcode and its operand bytes gives these bytes back. -/
theorem encode_decodeOpcode {o : Byte} {bytes : List Byte} (count : bytes.length = operandBytes o) :
    encode (decodeOpcode o (bytes.getD 0 0) (bytes.getD 1 0)) = o :: bytes := by
  rw [encode, opcode_decodeOpcode, operand_decodeOpcode, bytes_operandOfBytes]
  unfold operandBytes at count
  generalize (opcodeTable o).mode.format = format at count ⊢
  match format, bytes, count with
  | .F1, [], _ => rfl
  | .F2, [_], _ => rfl
  | .F3, [_, _], _ => rfl

/-! ### The statements -/

/-- Settles O1: the decoder takes as many bytes as the encoder wrote, and the instruction is read back from them. -/
theorem decodeOfEncodeIsTheInstruction : Obligations.DecodeOfEncodeIsTheInstruction := by
  intro i rest
  have count := length_operand_bytes i
  have enough : operandBytes i.opcode ≤ (i.operand.bytes ++ rest).length := by
    rw [List.length_append, count]
    exact Nat.le_add_right _ _
  rw [encode, List.cons_append, decode_of_operandBytes_le enough, List.take_left' count, List.drop_left' count,
    decodeOpcode_bytes]

/-- Settles O2: only a string with all its operand bytes is read, and the bytes taken and the bytes left make it up. -/
theorem encodeOfDecodeIsTheBytes : Obligations.EncodeOfDecodeIsTheBytes := by
  rintro (_ | ⟨o, tail⟩) i rest decoded
  · cases decoded
  rcases le_or_gt (operandBytes o) tail.length with enough | short
  · rw [decode_of_operandBytes_le enough] at decoded
    obtain ⟨rfl, rfl⟩ := Decoded.instr.inj decoded
    rw [encode_decodeOpcode (List.length_take_of_le enough), List.cons_append, List.take_append_drop]
  · rw [decode_of_lt_operandBytes short] at decoded
    cases decoded

/-- Settles O3: the two answers of the decoder, and the opcode of what it reads. -/
theorem decoderRefusesOnlyTruncatedBytes : Obligations.DecoderRefusesOnlyTruncatedBytes := fun o _ =>
  ⟨fun enough => ⟨_, decode_of_operandBytes_le enough, opcode_decodeOpcode o _ _, by rw [Instr.length, opcode_decodeOpcode]⟩,
    decode_of_lt_operandBytes⟩

/-- Settles O4: closed words, so the decoder runs on them. -/
theorem wordsOfTheOpcodeMapDecode : Obligations.WordsOfTheOpcodeMapDecode := by
  unfold Obligations.WordsOfTheOpcodeMapDecode
  decide

end Sys2Proof
end

section
/-! SUPPORT. The addressing modes as statements (spec/40_addressing_modes.md R103 to R119): the opcode table's read and read-modify-write
rows, the effective address of each mode in numbers, and the addresses an instruction stores to, read off its bus cycles. -/

namespace Sys2Proof.Machine

open Sys2Proof.Claims

/-! ### Rows of the opcode table -/

theorem opcodeTable_pagePenalty_iff : ∀ o : Byte, (opcodeTable o).pagePenalty = true ↔
    (opcodeTable o).cls = .read ∧
      ((opcodeTable o).mode = .abx ∨ (opcodeTable o).mode = .aby ∨ (opcodeTable o).mode = .izy) := by
  decide

/-- Settles O5: a fact about the 256 rows of the table, from which every instruction takes its record. -/
theorem pagePenaltyExactlyForIndexedReads : Obligations.PagePenaltyExactlyForIndexedReads :=
  fun i => opcodeTable_pagePenalty_iff i.opcode

/-- The operations that read, change and write back their operand (R118). -/
def modifyOperations : List Operation := [.ASL, .LSR, .ROL, .ROR, .INC, .DEC, .SLO, .RLA, .SRE, .RRA, .DCP, .ISC]

/-- A row of modify class has one of these operations, and no immediate operand. -/
theorem opcodeTable_modify : ∀ o : Byte, (opcodeTable o).cls = .modify →
    (opcodeTable o).op ∈ modifyOperations ∧ (opcodeTable o).mode ≠ .imm := by
  decide

/-! ### Effective addresses in numbers -/

theorem zeroPage_toNat (z : Byte) : (zeroPage z).toNat = z.toNat := by
  rw [zeroPage, wordOf_toNat]
  exact Nat.zero_add _

theorem zeroPage_eq_ofNat (z : Byte) : zeroPage z = BitVec.ofNat 16 z.toNat := by
  rw [← zeroPage_toNat, BitVec.ofNat_toNat, BitVec.setWidth_eq]

/-- A zero-page pointer gives its two bytes, the second from the zero page again (R60). -/
theorem State.readZeroPageWord_toNat (s : State) (z : Byte) :
    (s.readZeroPageWord z).toNat = 256 * (s.readMem (BitVec.ofNat 16 ((z.toNat + 1) % 256))).toNat
      + (s.readMem (BitVec.ofNat 16 z.toNat)).toNat := by
  rw [State.readZeroPageWord, wordOf_toNat, zeroPage_eq_ofNat, zeroPage_eq_ofNat, BitVec.toNat_add]
  rfl

/-- Settles O28: zero-page addresses as numbers, the index added modulo 256. -/
theorem effectiveAddressOfUnindexedModes : Obligations.EffectiveAddressOfUnindexedModes := by
  intro s z v w
  refine ⟨rfl, rfl, zeroPage_toNat z, ?zpx, ?zpy, rfl, ?izx⟩
  case zpx => exact (zeroPage_toNat _).trans (BitVec.toNat_add _ _)
  case zpy => exact (zeroPage_toNat _).trans (BitVec.toNat_add _ _)
  case izx =>
    have pointer := s.readZeroPageWord_toNat (z + s.x)
    rwa [BitVec.toNat_add, Nat.mod_add_mod] at pointer

@[simp] theorem indexed_base (base : Addr) (index : Byte) : (indexed base index).base = base := rfl

theorem indexed_ea_toNat (base : Addr) (index : Byte) :
    (indexed base index).ea.toNat = (base.toNat + index.toNat) % 65536 := by
  have widened : (index.setWidth 16).toNat = index.toNat := BitVec.toNat_setWidth_of_le (by decide)
  rw [indexed, BitVec.toNat_add, widened]

/-- Settles O29: the three indexed modes by the one index addition they share. -/
theorem effectiveAddressOfIndexedModes : Obligations.EffectiveAddressOfIndexedModes := fun s z w =>
  ⟨rfl, indexed_ea_toNat w s.x, rfl, indexed_ea_toNat w s.y, s.readZeroPageWord_toNat z, indexed_ea_toNat _ s.y⟩

/-- The high byte changes exactly if the index carries out of the low byte (R114). -/
theorem indexed_crossed_iff (base : Addr) (index : Byte) :
    (indexed base index).crossed = true ↔ (loByte base).toNat + index.toNat > 255 := by
  have changed : (indexed base index).crossed = true ↔
      (hiByte (indexed base index).ea).toNat ≠ (hiByte base).toNat := by
    rw [Ne, BitVec.toNat_inj]
    exact bne_iff_ne
  rw [changed, hiByte_toNat, hiByte_toNat, loByte_toNat, indexed_ea_toNat]
  omega

/-- Settles O30: an indexed mode crosses by `indexed_crossed_iff`, any other never. -/
theorem pageCrossingIsTheLowByteCarry : Obligations.PageCrossingIsTheLowByteCarry := by
  intro s m
  cases m with
  | abx w => simpa [MemOperand.mode, resolve] using indexed_crossed_iff w s.x
  | aby w => simpa [MemOperand.mode, resolve] using indexed_crossed_iff w s.y
  | izy z => simpa [MemOperand.mode, resolve] using indexed_crossed_iff (s.readZeroPageWord z) s.y
  | imm | zp | zpx | zpy | abs | izx => simp [MemOperand.mode, resolve, direct]

/-! ### Read-modify-write -/

/-- The bus cycles of an instruction of modify class are those of the read-modify-write rule. -/
theorem busActivity_of_modify {i : Instr} {m : MemOperand} (cls : i.entry.cls = .modify) (operand : i.operand = .mem m)
    (s : State) : ∃ change, busActivity i s = modifyCycles m change s := by
  obtain ⟨op, -⟩ := opcodeTable_modify i.opcode cls
  change i.entry.op ∈ _ at op
  simp only [modifyOperations, List.mem_cons, List.not_mem_nil, or_false] at op
  rcases op with op | op | op | op | op | op | op | op | op | op | op | op
  all_goals
    simp only [busActivity, op, operand, modifyOrImplied]
    exact ⟨_, rfl⟩

theorem operandByte_of_mode_ne_imm {m : MemOperand} (memory : m.mode ≠ .imm) (s : State) :
    operandByte m s = s.readMem (resolve m s).ea := by
  cases m with
  | imm => exact absurd rfl memory
  | zp | zpx | zpy | abs | abx | aby | izx | izy => rfl

/-- An instruction of modify class takes its operand from memory (R118). -/
theorem operandByte_of_modify {i : Instr} {m : MemOperand} (cls : i.entry.cls = .modify) (operand : i.operand = .mem m)
    (s : State) : operandByte m s = s.readMem (resolve m s).ea := by
  obtain ⟨-, memory⟩ := opcodeTable_modify i.opcode cls
  have row : m.mode = i.entry.mode := by
    rw [← Laws.tableRow i, operand]
    rfl
  exact operandByte_of_mode_ne_imm (row.trans_ne memory) s

theorem readsOnly_beforeDataAccess (m : MemOperand) (always : Bool) (s : State) :
    ReadsOnly (opcodeCycle s :: addressCycles m always s) :=
  (readsOnly_cons _ _ _).2 (readsOnly_addressCycles m always s)

/-- Only the last write of a read-modify-write is required. -/
theorem replay_required_modifyCycles (m : MemOperand) (change : Byte → Byte) (s : State) :
    replay ((modifyCycles m change s).filter BusCycle.required) s =
      s.writeMem (resolve m s).ea (change (operandByte m s)) := by
  rw [modifyCycles, List.filter_append, replay_append, replay_of_readsOnly ((readsOnly_beforeDataAccess m true s).filter _)]
  rfl

/-- Settles O37: the list is that of the read-modify-write rule, and the step performs its required writes, of which the last is the
only one. -/
theorem readModifyWriteWritesTwice : Obligations.ReadModifyWriteWritesTwice := by
  intro i m s cls operand ea
  obtain ⟨t, completes, performs⟩ := exec_performs i s
  obtain ⟨change, cycles⟩ := busActivity_of_modify cls operand s
  have stored : SameBus (s.writeMem ea (change (operandByte m s))) t := by
    rw [← replay_required_modifyCycles, ← cycles]
    exact performs.required
  refine ⟨opcodeCycle s :: addressCycles m true s, change (operandByte m s), t, completes, ?reads, ?list, stored.mem,
    stored.devices, fun plain => ?result⟩
  case reads => exact readsOnly_beforeDataAccess m true s
  case list => rw [cycles, modifyCycles, ← operandByte_of_modify cls operand]
  case result =>
    rw [State.readMem_of_host stored.mem stored.bus stored.devices, State.readMem_writeMem_of_plain plain plain, if_pos rfl]

/-! ### The addresses an instruction stores to -/

/-- The addresses of the required writes in a list of bus cycles, in order. -/
def requiredWriteAddrs : List BusCycle → List Addr
  | [] => []
  | .write a _ false :: rest => a :: requiredWriteAddrs rest
  | _ :: rest => requiredWriteAddrs rest

@[simp] theorem requiredWriteAddrs_nil : requiredWriteAddrs [] = [] := rfl
@[simp] theorem requiredWriteAddrs_read (a : Addr) (dummy : Bool) (rest : List BusCycle) :
    requiredWriteAddrs (.read a dummy :: rest) = requiredWriteAddrs rest := rfl
@[simp] theorem requiredWriteAddrs_write_required (a : Addr) (v : Byte) (rest : List BusCycle) :
    requiredWriteAddrs (.write a v false :: rest) = a :: requiredWriteAddrs rest := rfl
@[simp] theorem requiredWriteAddrs_write_dummy (a : Addr) (v : Byte) (rest : List BusCycle) :
    requiredWriteAddrs (.write a v true :: rest) = requiredWriteAddrs rest := rfl

/-- Reads store nothing, so only what follows them counts. -/
theorem requiredWriteAddrs_append_of_readsOnly {front : List BusCycle} (reads : ReadsOnly front) (rest : List BusCycle) :
    requiredWriteAddrs (front ++ rest) = requiredWriteAddrs rest := by
  induction front with
  | nil => rfl
  | cons c front ih =>
    obtain ⟨a, dummy, rfl⟩ := reads c List.mem_cons_self
    exact ih ((readsOnly_cons a dummy front).1 reads)

theorem requiredWriteAddrs_of_readsOnly {l : List BusCycle} (reads : ReadsOnly l) : requiredWriteAddrs l = [] := by
  simpa using requiredWriteAddrs_append_of_readsOnly reads []

/-- A byte that none of the required writes reaches reads as before. -/
theorem readMem_replay_required {l : List BusCycle} {s : State} {a : Addr}
    (far : ∀ b ∈ requiredWriteAddrs l, s.bus.reaches b a = false) :
    (replay (l.filter BusCycle.required) s).readMem a = s.readMem a := by
  induction l generalizing s with
  | nil => rfl
  | cons c rest ih =>
    match c with
    | .read _ true | .read _ false | .write _ _ true => exact ih far
    | .write b v false =>
      obtain ⟨first, later⟩ := List.forall_mem_cons.1 far
      exact (ih (s := s.writeMem b v) later).trans (State.readMem_writeMem_of_not_reaches first v)

/-- Without required writes nothing changes. -/
theorem replay_required_of_no_store {l : List BusCycle} (storeless : requiredWriteAddrs l = []) (s : State) :
    replay (l.filter BusCycle.required) s = s := by
  induction l with
  | nil => rfl
  | cons c rest ih =>
    match c with
    | .read _ true | .read _ false | .write _ _ true => exact ih storeless

@[simp] theorem requiredWriteAddrs_impliedCycles (s : State) : requiredWriteAddrs (impliedCycles s) = [] := rfl

@[simp] theorem requiredWriteAddrs_readCycles (m : MemOperand) (s : State) : requiredWriteAddrs (readCycles m s) = [] :=
  requiredWriteAddrs_of_readsOnly (by simp [readCycles, opcodeCycle])

@[simp] theorem requiredWriteAddrs_writeCycles (m : MemOperand) (a : Addr) (v : Byte) (s : State) :
    requiredWriteAddrs (writeCycles m a v s) = [a] :=
  requiredWriteAddrs_append_of_readsOnly (readsOnly_beforeDataAccess m true s) _

@[simp] theorem requiredWriteAddrs_modifyCycles (m : MemOperand) (change : Byte → Byte) (s : State) :
    requiredWriteAddrs (modifyCycles m change s) = [(resolve m s).ea] :=
  requiredWriteAddrs_append_of_readsOnly (readsOnly_beforeDataAccess m true s) _

@[simp] theorem requiredWriteAddrs_branchCycles (o : Operand) (taken : Bool) (s : State) :
    requiredWriteAddrs (branchCycles o taken s) = [] := by
  unfold branchCycles
  split
  · refine requiredWriteAddrs_of_readsOnly ?_
    cases taken with
    | false => simp [opcodeCycle]
    | true =>
      simp only [if_true]
      split <;> simp [opcodeCycle]
  · exact requiredWriteAddrs_impliedCycles s

@[simp] theorem requiredWriteAddrs_jumpCycles (o : Operand) (s : State) : requiredWriteAddrs (jumpCycles o s) = [] := by
  cases o <;> rfl

/-- `storedAddrs` lists the required writes of the instruction's bus cycles, in their order: both go by its operation and its operand. -/
theorem requiredWriteAddrs_busActivity (i : Instr) (s : State) : requiredWriteAddrs (busActivity i s) = storedAddrs i s := by
  unfold busActivity storedAddrs
  generalize i.entry.op = op
  generalize i.operand = o
  cases op with
  | STA | STX | STY | SAX => cases o <;> simp [storeCycles]
  | SHA | TAS | SHX | SHY => cases o <;> simp [unstableCycles]
  | ASL | LSR | ROL | ROR | INC | DEC | SLO | RLA | SRE | RRA | DCP | ISC => cases o <;> simp [modifyOrImplied]
  | LDA | LDX | LDY | ADC | SBC | AND | ORA | EOR | CMP | CPX | CPY | BIT | NOP | LAX | ANC | ALR | ARR | SBX | USBC | LAS | ANE
  | LXA => cases o <;> simp [readOrImplied]
  | BCC | BCS | BEQ | BNE | BMI | BPL | BVC | BVS | JMP => simp
  | TAX | TAY | TXA | TYA | TSX | TXS | INX | INY | DEX | DEY | CLC | SEC | CLI | SEI | CLV | CLD | SED | JSR | RTS | RTI | PHA
  | PHP | PLA | PLP | BRK | JAM => rfl

/-- Settles O27: a step does to the bus what the required writes of its list do, and these go to the addresses of `storedAddrs`. -/
theorem memoryChangesOnlyWhereStored : Obligations.MemoryChangesOnlyWhereStored := by
  intro i s
  obtain ⟨t, completes, performs⟩ := exec_performs i s
  obtain ⟨bus, mem, devices⟩ := performs.required
  have kept {a : Addr} (far : ∀ b ∈ storedAddrs i s, s.bus.reaches b a = false) : t.readMem a = s.readMem a := by
    rw [← requiredWriteAddrs_busActivity] at far
    rw [State.readMem_of_host mem bus devices, readMem_replay_required far]
  refine ⟨t, completes, fun a => kept, fun plain a unstored => kept fun b stored => ?apart, fun storeless => ?untouched⟩
  case apart =>
    rw [plain, BusMap.reaches_nil, beq_eq_false_iff_ne]
    exact ne_of_mem_of_not_mem stored unstored
  case untouched =>
    rw [← requiredWriteAddrs_busActivity] at storeless
    rw [replay_required_of_no_store storeless] at mem devices
    exact ⟨mem, devices⟩

end Sys2Proof.Machine
end

section
/-! SUPPORT. Loads, stores and register transfers as statements (spec/41_load_store_transfer.md R130 to R142): the instructions of an
operation are the rows of its `Encoding:` line with operand bytes, and what reading, storing and implied instructions leave, with the
length and the cycle count of their table row. -/

namespace Sys2Proof.Machine

open Sys2Proof.Claims

/-! ### The instructions of an operation -/

/-- What holds of each row of an operation's `Encoding:` line, with any operand bytes, holds of each instruction of the operation, with
the base cycles and the page penalty of its own row. -/
theorem instr_of_encoded {op : Operation} {rows : List EncodingRow} {P : Instr → Option Nat → Bool → Prop}
    (encoded : Encoded op rows) (each : ∀ row ∈ rows, ∀ b1 b2 : Byte, P (decodeOpcode row.1 b1 b2) row.2.2.1 row.2.2.2)
    {i : Instr} (isOp : i.entry.op = op) : P i i.entry.baseCycles i.entry.pagePenalty := by
  have known := each _ ((encoded i.opcode).1 isOp) (i.operand.bytes.getD 0 0) (i.operand.bytes.getD 1 0)
  rwa [decodeOpcode_bytes] at known

/-! ### Length and cycles -/

theorem instrLength_of_operand {i : Instr} {o : Operand} (operand : i.operand = o) :
    i.length = 1 + o.mode.format.operandBytes := by
  rw [← operand, Laws.tableRow i]
  rfl

theorem instrLength_of_mem {i : Instr} {m : MemOperand} (operand : i.operand = .mem m) : i.length = m.length :=
  instrLength_of_operand operand

theorem instrLength_of_imp {i : Instr} (operand : i.operand = .imp) : i.length = 1 :=
  instrLength_of_operand operand

theorem tableCycles_of_mem {i : Instr} {m : MemOperand} (operand : i.operand = .mem m) (s : State) :
    tableCycles i s = i.entry.baseCycles.getD 0 + extraCycle i.entry.pagePenalty (resolve m s).crossed := by
  simp only [tableCycles, extraCycle, crossedOf, operand, Bool.and_eq_true]

theorem tableCycles_of_no_penalty {i : Instr} (noPenalty : i.entry.pagePenalty = false) (s : State) :
    tableCycles i s = i.entry.baseCycles.getD 0 := by
  simp only [tableCycles, noPenalty, Bool.false_eq_true, false_and, if_false, Nat.add_zero]

/-- Retiring with the instruction's own length and the cycles of its table row is how `finished` says an instruction ends. -/
theorem retire_eq_finished {i : Instr} {s t : State} {n c : Nat} (pc : t.pc = s.pc) (length : i.length = n)
    (cycles : tableCycles i s = c) : t.retire n c = finished i s t := by
  rw [State.retire, finished, pc, length, cycles]

/-! ### Instructions that read, store or have no operand -/

/-- The instruction reads its operand and has this effect, with these base cycles and this page penalty (R116). -/
def IsRead (effect : Byte → State → State) (i : Instr) (base : Option Nat) (penalty : Bool) : Prop :=
  ∃ m, i.operand = .mem m ∧ ∀ s, exec i s = readRule m (base.getD 0) penalty effect s

/-- The instruction stores this value at its operand, with these base cycles and no more for a page cross (R117). -/
def IsStore (value : State → Byte) (i : Instr) (base : Option Nat) (penalty : Bool) : Prop :=
  ∃ m, i.operand = .mem m ∧ penalty = false ∧ ∀ s, exec i s = writeRule m (base.getD 0) (value s) s

/-- The instruction has no operand and this effect, with these base cycles and no page to cross (R101). -/
def IsImplied (after : State → State) (i : Instr) (base : Option Nat) (penalty : Bool) : Prop :=
  i.operand = .imp ∧ penalty = false ∧ ∀ s, exec i s = impliedRule (base.getD 0) (after s)

section Results

variable {i : Instr} {s : State}

theorem IsRead.exec_eq {effect : Byte → State → State} (read : IsRead effect i i.entry.baseCycles i.entry.pagePenalty)
    (pc : ∀ v, (effect v s).pc = s.pc) : exec i s = .next (finished i s (effect (operandOf i s) s)) := by
  obtain ⟨m, operand, meaning⟩ := read
  have byte : operandOf i s = operandByte m s := by simp only [operandOf, operand]
  rw [meaning, readRule, byte, retire_eq_finished (pc _) (instrLength_of_mem operand) (tableCycles_of_mem operand s)]

theorem IsStore.exec_eq {value : State → Byte} (store : IsStore value i i.entry.baseCycles i.entry.pagePenalty)
    {m : MemOperand} (operand : i.operand = .mem m) :
    exec i s = .next (finished i s (s.writeMem (resolve m s).ea (value s))) := by
  obtain ⟨m', operand', noPenalty, meaning⟩ := store
  obtain rfl : m' = m := Operand.mem.inj (operand'.symm.trans operand)
  rw [meaning, writeRule, retire_eq_finished (State.writeMem_pc s _ _) (instrLength_of_mem operand)
    (tableCycles_of_no_penalty noPenalty s)]

theorem IsImplied.exec_eq {after : State → State} (implied : IsImplied after i i.entry.baseCycles i.entry.pagePenalty)
    (pc : (after s).pc = s.pc) : exec i s = .next (finished i s (after s)) := by
  obtain ⟨operand, noPenalty, meaning⟩ := implied
  rw [meaning, impliedRule, retire_eq_finished pc (instrLength_of_imp operand) (tableCycles_of_no_penalty noPenalty s)]

end Results

/-! ### The statements. In each, the `Encoding:` lines are checked against the opcode table, and then serve to tell the instructions of each
operation, so that only these are looked at. -/

/-- Settles O40: every row of LDA, LDX and LDY is a read. -/
theorem loadResults : Obligations.LoadResults := by
  refine ⟨?lda, ?ldx, ?ldy, fun i s =>
    ⟨fun op => (instr_of_encoded (P := IsRead loadA) ?lda ?ldaRows op).exec_eq fun _ => rfl,
      fun op => (instr_of_encoded (P := IsRead loadX) ?ldx ?ldxRows op).exec_eq fun _ => rfl,
      fun op => (instr_of_encoded (P := IsRead loadY) ?ldy ?ldyRows op).exec_eq fun _ => rfl⟩⟩
  case lda | ldx | ldy =>
    unfold Encoded
    decide
  case ldaRows | ldxRows | ldyRows =>
    intro row listed b1 b2
    fin_cases listed <;> exact ⟨_, rfl, fun _ => rfl⟩

/-- Settles O41: every row of STA, STX, STY and SAX is a store. -/
theorem storeResults : Obligations.StoreResults := by
  refine ⟨?sta, ?stx, ?sty, ?sax, fun i m s operand =>
    ⟨fun op => (instr_of_encoded (P := IsStore State.a) ?sta ?staRows op).exec_eq operand,
      fun op => (instr_of_encoded (P := IsStore State.x) ?stx ?stxRows op).exec_eq operand,
      fun op => (instr_of_encoded (P := IsStore State.y) ?sty ?styRows op).exec_eq operand,
      fun op => (instr_of_encoded (P := IsStore fun s => s.a &&& s.x) ?sax ?saxRows op).exec_eq operand⟩⟩
  case sta | stx | sty | sax =>
    unfold Encoded
    decide
  case staRows | stxRows | styRows | saxRows =>
    intro row listed b1 b2
    fin_cases listed <;> exact ⟨_, rfl, rfl, fun _ => rfl⟩

/-- Settles O42: the one row of each transfer is an implied instruction. -/
theorem transferResults : Obligations.TransferResults := by
  refine ⟨?tax, ?tay, ?txa, ?tya, ?tsx, ?txs, fun i s =>
    ⟨fun op => (instr_of_encoded (P := IsImplied fun s => (s.setX s.a).setNZ s.a) ?tax ?taxRow op).exec_eq rfl,
      fun op => (instr_of_encoded (P := IsImplied fun s => (s.setY s.a).setNZ s.a) ?tay ?tayRow op).exec_eq rfl,
      fun op => (instr_of_encoded (P := IsImplied fun s => (s.setA s.x).setNZ s.x) ?txa ?txaRow op).exec_eq rfl,
      fun op => (instr_of_encoded (P := IsImplied fun s => (s.setA s.y).setNZ s.y) ?tya ?tyaRow op).exec_eq rfl,
      fun op => (instr_of_encoded (P := IsImplied fun s => (s.setX s.sp).setNZ s.sp) ?tsx ?tsxRow op).exec_eq rfl,
      fun op => (instr_of_encoded (P := IsImplied fun s => s.setSp s.x) ?txs ?txsRow op).exec_eq rfl⟩⟩
  case tax | tay | txa | tya | tsx | txs =>
    unfold Encoded
    decide
  case taxRow | tayRow | txaRow | tyaRow | tsxRow | txsRow =>
    intro row listed b1 b2
    obtain rfl := List.mem_singleton.1 listed
    exact ⟨rfl, rfl, fun _ => rfl⟩

end Sys2Proof.Machine
end

section
/-! SUPPORT. Arithmetic, logic, compare and bit test as statements (spec/42_arith_logic.md R150 to R160): `AddWithCarry` and the
subtraction built on it in natural and signed numbers, and the instructions as reads of their operand. -/

namespace Sys2Proof.Machine

open Sys2Proof.Claims

/-! ### The addition -/

/-- In numbers: bit 7 is set exactly in the bytes from 128, which stand for the negative numbers; so the signs tell whether the signed sum
leaves -128 to 127. -/
theorem addWithCarry_overflow (a m : Byte) (c : Bool) :
    (addWithCarry a m c).overflow = outOfRange (a.toInt + m.toInt + (c.toNat : Int)) := by
  have carryIn := c.toNat_le
  rw [addWithCarry, outOfRange, Bool.eq_iff_iff]
  simp only [BitVec.msb_eq_decide, BitVec.toInt_eq_toNat_cond, BitVec.toNat_ofNat, Bool.and_eq_true, beq_iff_eq, bne_iff_ne,
    ne_eq, decide_eq_decide, decide_eq_true_iff]
  omega

/-- In bits: the operands have one sign and the sum the other (R150). -/
theorem addWithCarry_overflow_signs (a m : Byte) (c : Bool) :
    (addWithCarry a m c).overflow =
      decide (a.getLsbD 7 = m.getLsbD 7 ∧ (addWithCarry a m c).sum.getLsbD 7 ≠ a.getLsbD 7) := by
  rw [Bool.decide_and, decide_not]
  rfl

/-- In the form of R150 with exclusive ors: the sign of the sum differs from both. -/
theorem addWithCarry_overflow_xor (a m : Byte) (c : Bool) :
    (addWithCarry a m c).overflow =
      ((a ^^^ (addWithCarry a m c).sum) &&& (m ^^^ (addWithCarry a m c).sum)).getLsbD 7 := by
  rw [addWithCarry_overflow_signs, BitVec.getLsbD_and, BitVec.getLsbD_xor, BitVec.getLsbD_xor]
  cases a.getLsbD 7 <;> cases m.getLsbD 7 <;> cases (addWithCarry a m c).sum.getLsbD 7 <;> rfl

/-! ### The subtraction: an addition of the complement, which is `255 - m` as a natural number and `-1 - m` as a signed one -/

theorem toNat_complement (m : Byte) : (m ^^^ 0xFF).toNat = 255 - m.toNat := by
  have flipped : m ^^^ 0xFF = ~~~m := BitVec.xor_allOnes
  rw [flipped, BitVec.toNat_not]

theorem toInt_complement (m : Byte) : (m ^^^ 0xFF).toInt = -1 - m.toInt := by
  have byte := m.isLt
  rw [BitVec.toInt_eq_toNat_cond, BitVec.toInt_eq_toNat_cond, toNat_complement]
  omega

theorem subWithBorrow_sum (a m : Byte) (c : Bool) :
    (subWithBorrow a m c).sum = a - m - BitVec.ofNat 8 (1 - c.toNat) := by
  have carryIn := c.toNat_le
  simp only [subWithBorrow, addWithCarry, toNat_complement]
  bv_omega

theorem subWithBorrow_carry (a m : Byte) (c : Bool) :
    (subWithBorrow a m c).carry = decide (m.toNat + (1 - c.toNat) ≤ a.toNat) := by
  have carryIn := c.toNat_le
  simp only [subWithBorrow, addWithCarry, toNat_complement, decide_eq_decide]
  omega

theorem subWithBorrow_overflow (a m : Byte) (c : Bool) :
    (subWithBorrow a m c).overflow = outOfRange (a.toInt - m.toInt - ((1 - c.toNat : Nat) : Int)) := by
  have carryIn := c.toNat_le
  rw [subWithBorrow, addWithCarry_overflow, toInt_complement]
  congr 1
  omega

/-- Settles O38: the sum and the carry of an addition are its definition; the rest are the rules above. -/
theorem addWithCarryIsExact : Obligations.AddWithCarryIsExact := fun a m c =>
  ⟨BitVec.toNat_ofNat _ _, rfl, addWithCarry_overflow_signs a m c, addWithCarry_overflow_xor a m c, subWithBorrow_sum a m c,
    subWithBorrow_carry a m c, subWithBorrow_overflow a m c⟩

/-! ### The effects of ADC and SBC in numbers -/

theorem adcEffect_eq_added (m : Byte) (s : State) : adcEffect m s = added m s.flags.c s := by
  rw [adcEffect, State.setSum, Flags.setArith, addWithCarry_overflow]
  rfl

theorem sbcEffect_eq_subtracted (m : Byte) (s : State) : sbcEffect m s = subtracted m s.flags.c s := by
  rw [sbcEffect, State.setSum, Flags.setArith, subWithBorrow_sum, subWithBorrow_carry, subWithBorrow_overflow]
  rfl

/-! ### The results: each row of an `Encoding:` line is a read with the effect of its operation -/

/-- Settles O43: every row of ADC, SBC and USBC is a read, SBC and USBC with one effect. -/
theorem addAndSubtractResults : Obligations.AddAndSubtractResults := by
  refine ⟨?adc, ?sbc, ?usbc, fun i s =>
    ⟨fun op => ((instr_of_encoded (P := IsRead adcEffect) ?adc ?adcRows op).exec_eq fun _ => rfl).trans
        (by rw [adcEffect_eq_added]),
      fun op => ((op.elim (instr_of_encoded (P := IsRead sbcEffect) ?sbc ?sbcRows)
          (instr_of_encoded (P := IsRead sbcEffect) ?usbc ?usbcRows)).exec_eq fun _ => rfl).trans
        (by rw [sbcEffect_eq_subtracted])⟩⟩
  case adc | sbc | usbc =>
    unfold Encoded
    decide
  case adcRows | sbcRows | usbcRows =>
    intro row listed b1 b2
    fin_cases listed <;> exact ⟨_, rfl, fun _ => rfl⟩

/-- Settles O44: every row of AND, ORA and EOR is a read. -/
theorem logicResults : Obligations.LogicResults := by
  refine ⟨?and, ?ora, ?eor, fun i s =>
    ⟨fun op => (instr_of_encoded (P := IsRead andEffect) ?and ?andRows op).exec_eq fun _ => rfl,
      fun op => (instr_of_encoded (P := IsRead oraEffect) ?ora ?oraRows op).exec_eq fun _ => rfl,
      fun op => (instr_of_encoded (P := IsRead eorEffect) ?eor ?eorRows op).exec_eq fun _ => rfl⟩⟩
  case and | ora | eor =>
    unfold Encoded
    decide
  case andRows | oraRows | eorRows =>
    intro row listed b1 b2
    fin_cases listed <;> exact ⟨_, rfl, fun _ => rfl⟩

/-- Settles O45: every row of CMP, CPX, CPY and BIT is a read, which writes no register. -/
theorem compareAndBitResults : Obligations.CompareAndBitResults := by
  refine ⟨?cmp, ?cpx, ?cpy, ?bit, fun i s =>
    ⟨fun op => (instr_of_encoded (P := IsRead cmpEffect) ?cmp ?cmpRows op).exec_eq fun _ => rfl,
      fun op => (instr_of_encoded (P := IsRead cpxEffect) ?cpx ?cpxRows op).exec_eq fun _ => rfl,
      fun op => (instr_of_encoded (P := IsRead cpyEffect) ?cpy ?cpyRows op).exec_eq fun _ => rfl,
      fun op => (instr_of_encoded (P := IsRead bitEffect) ?bit ?bitRows op).exec_eq fun _ => rfl⟩⟩
  case cmp | cpx | cpy | bit =>
    unfold Encoded
    decide
  case cmpRows | cpxRows | cpyRows | bitRows =>
    intro row listed b1 b2
    fin_cases listed <;> exact ⟨_, rfl, fun _ => rfl⟩

end Sys2Proof.Machine
end

section
/-! SUPPORT. Shifts, rotates, increments and decrements as statements (spec/43_shift_incdec.md R170 to R181): the one-bit shifts in
numbers and in bits, and the instructions that put a changed byte back where their operand was, in memory or in `A`. -/

namespace Sys2Proof.Machine

open Sys2Proof.Claims

/-! ### The one-bit shifts in numbers -/

theorem aslByte_toNat (v : Byte) : (aslByte v).toNat = v.toNat * 2 % 256 := BitVec.toNat_ofNat _ _

theorem lsrByte_toNat (v : Byte) : (lsrByte v).toNat = v.toNat / 2 := by
  have byte := v.isLt
  exact (BitVec.toNat_ofNat _ _).trans (Nat.mod_eq_of_lt (by omega))

theorem rolByte_toNat (v : Byte) (c : Bool) : (rolByte v c).toNat = v.toNat * 2 % 256 + c.toNat := by
  have carryIn := c.toNat_le
  exact (BitVec.toNat_ofNat _ _).trans (Nat.mod_eq_of_lt (by omega))

theorem rorByte_toNat (v : Byte) (c : Bool) : (rorByte v c).toNat = v.toNat / 2 + 128 * c.toNat := by
  have byte := v.isLt
  have carryIn := c.toNat_le
  exact (BitVec.toNat_ofNat _ _).trans (Nat.mod_eq_of_lt (by omega))

/-- Settles O39: no shift but ASL can leave the byte, and the bits shifted out are defined as stated. -/
theorem shiftFunctions : Obligations.ShiftFunctions := fun v c =>
  ⟨aslByte_toNat v, lsrByte_toNat v, rolByte_toNat v c, rorByte_toNat v c, rfl, rfl⟩

/-! ### The one-bit shifts in bits -/

theorem aslByte_eq_shiftLeft (v : Byte) : aslByte v = v <<< 1 := by
  apply BitVec.eq_of_toNat_eq
  rw [aslByte_toNat, BitVec.toNat_shiftLeft, Nat.shiftLeft_eq, pow_one]

theorem lsrByte_eq_ushiftRight (v : Byte) : lsrByte v = v >>> 1 := by
  apply BitVec.eq_of_toNat_eq
  rw [lsrByte_toNat, BitVec.toNat_ushiftRight, Nat.shiftRight_eq_div_pow, pow_one]

/-- The carry goes into bit 0, which the shift left clear, so adding it is an or. -/
theorem rolByte_eq_shiftLeft_or (v : Byte) (c : Bool) :
    rolByte v c = v <<< 1 ||| (if c = true then 0x01 else 0x00) := by
  apply BitVec.eq_of_toNat_eq
  have bit : (if c = true then 0x01 else 0x00 : Byte).toNat = c.toNat := by cases c <;> rfl
  have shifted : (v <<< 1).toNat = 2 ^ 1 * (v.toNat % 128) := by
    rw [← aslByte_eq_shiftLeft, aslByte_toNat]
    omega
  rw [BitVec.toNat_or, bit, shifted, ← Nat.two_pow_add_eq_or_of_lt c.toNat_lt, rolByte_toNat]
  omega

/-- The carry goes into bit 7, which the shift left clear, so adding it is an or. -/
theorem rorByte_eq_ushiftRight_or (v : Byte) (c : Bool) :
    rorByte v c = v >>> 1 ||| (if c = true then 0x80 else 0x00) := by
  apply BitVec.eq_of_toNat_eq
  have bit : (if c = true then 0x80 else 0x00 : Byte).toNat = 2 ^ 7 * c.toNat := by cases c <;> rfl
  have shifted : (v >>> 1).toNat < 2 ^ 7 := by
    have byte := v.isLt
    rw [← lsrByte_eq_ushiftRight, lsrByte_toNat]
    omega
  rw [BitVec.toNat_or, bit, Nat.or_comm, ← Nat.two_pow_add_eq_or_of_lt shifted, rorByte_toNat, ← lsrByte_eq_ushiftRight,
    lsrByte_toNat, Nat.add_comm]

/-! ### Instructions that change their operand where it is -/

section Operand

variable {i : Instr} {m : MemOperand}

theorem operandOf_of_mem (operand : i.operand = .mem m) (s : State) : operandOf i s = operandByte m s := by
  simp only [operandOf, operand]

theorem operandOf_of_acc (operand : i.operand = .acc) (s : State) : operandOf i s = s.a := by
  simp only [operandOf, operand]

theorem putBack_of_mem (operand : i.operand = .mem m) (s : State) (r : Byte) (t : State) :
    putBack i s r t = t.writeMem (resolve m s).ea r := by
  simp only [putBack, operand]

theorem putBack_of_acc (operand : i.operand = .acc) (s : State) (r : Byte) (t : State) : putBack i s r t = t.setA r := by
  simp only [putBack, operand]
  rfl

end Operand

@[simp] theorem putBack_flags (i : Instr) (s : State) (r : Byte) (t : State) : (putBack i s r t).flags = t.flags := by
  unfold putBack
  cases i.operand <;> rfl

theorem setFlags_putBack (i : Instr) (s : State) (r : Byte) (t : State) (f : Flags) :
    (putBack i s r t).setFlags f = putBack i s r (t.setFlags f) := by
  unfold putBack
  cases i.operand <;> rfl

/-- The instruction changes the byte of its memory operand, with these base cycles and no more for a page cross, or it changes `A`, in 2
cycles; then it has this effect of the old and the new byte (R102, R118, R181). -/
def IsModify (change : State → Byte → Byte) (effect : Byte → Byte → State → State) (i : Instr) (base : Option Nat)
    (penalty : Bool) : Prop :=
  penalty = false ∧
    ((∃ m, i.operand = .mem m ∧ ∀ s, exec i s = modifyRule m (base.getD 0) (change s) effect s) ∨
     (i.operand = .acc ∧ base = some 2 ∧ ∀ s, exec i s = accumulatorRule (change s s.a) effect s))

section Results

variable {i : Instr} {s : State} {change : State → Byte → Byte} {effect : Byte → Byte → State → State}

theorem IsModify.exec_eq (modify : IsModify change effect i i.entry.baseCycles i.entry.pagePenalty)
    (pc : ∀ old new t, (effect old new t).pc = t.pc) :
    exec i s = .next (finished i s (effect (operandOf i s) (change s (operandOf i s))
      (putBack i s (change s (operandOf i s)) s))) := by
  obtain ⟨noPenalty, ⟨m, operand, meaning⟩ | ⟨operand, base, meaning⟩⟩ := modify
  · have kept (old new a) : (effect old new (s.writeMem a new)).pc = s.pc := (pc old new _).trans (State.writeMem_pc s a new)
    rw [meaning, modifyRule, operandOf_of_mem operand, putBack_of_mem operand,
      retire_eq_finished (kept _ _ _) (instrLength_of_mem operand) (tableCycles_of_no_penalty noPenalty s)]
  · have kept (old new) : (effect old new (s.setA new)).pc = s.pc := (pc old new _).trans (State.setA_pc s new)
    have length : i.length = 1 := instrLength_of_operand operand
    have cycles : tableCycles i s = 2 := by rw [tableCycles_of_no_penalty noPenalty, base, Option.getD_some]
    rw [meaning, accumulatorRule, operandOf_of_acc operand, putBack_of_acc operand,
      retire_eq_finished (kept _ _) length cycles]

/-- An effect on the flags alone may as well come before the byte is put back; `r` is another name of the new byte. -/
theorem IsModify.exec_eq_of_flags (modify : IsModify change effect i i.entry.baseCycles i.entry.pagePenalty)
    {flags : Byte → Byte → Flags → Flags} (flagsOnly : ∀ old new t, effect old new t = t.setFlags (flags old new t.flags))
    {r : Byte} (result : change s (operandOf i s) = r) :
    exec i s = .next (finished i s (putBack i s r (s.setFlags (flags (operandOf i s) r s.flags)))) := by
  have pc (old new t) : (effect old new t).pc = t.pc := by rw [flagsOnly, State.setFlags_pc]
  rw [modify.exec_eq pc, flagsOnly, setFlags_putBack, putBack_flags, result]

end Results

/-! ### The statements. The rows of an `Encoding:` line are modifications of memory or of `A`, or implied instructions. -/

/-- Settles O46: every row of ASL, LSR, ROL and ROR changes its operand where it is, the rotates by the carry too. -/
theorem shiftResults : Obligations.ShiftResults := by
  refine ⟨?asl, ?lsr, ?rol, ?ror, fun i s =>
    ⟨fun op => (instr_of_encoded (P := IsModify (fun _ => aslByte) aslEffect) ?asl ?aslRows op).exec_eq_of_flags
        (flags := fun old => Flags.setShift (outLeft old)) (fun _ _ _ => rfl) (aslByte_eq_shiftLeft _),
      fun op => (instr_of_encoded (P := IsModify (fun _ => lsrByte) lsrEffect) ?lsr ?lsrRows op).exec_eq_of_flags
        (flags := fun old => Flags.setShift (outRight old)) (fun _ _ _ => rfl) (lsrByte_eq_ushiftRight _),
      fun op => (instr_of_encoded (P := IsModify (fun s m => rolByte m s.flags.c) rolEffect) ?rol ?rolRows op).exec_eq_of_flags
        (flags := fun old => Flags.setShift (outLeft old)) (fun _ _ _ => rfl) (rolByte_eq_shiftLeft_or _ _),
      fun op => (instr_of_encoded (P := IsModify (fun s m => rorByte m s.flags.c) rorEffect) ?ror ?rorRows op).exec_eq_of_flags
        (flags := fun old => Flags.setShift (outRight old)) (fun _ _ _ => rfl) (rorByte_eq_ushiftRight_or _ _)⟩⟩
  case asl | lsr | rol | ror =>
    unfold Encoded
    decide
  case aslRows | lsrRows | rolRows | rorRows =>
    intro row listed b1 b2
    obtain rfl | memory := List.mem_cons.1 listed
    · exact ⟨rfl, .inr ⟨rfl, rfl, fun _ => rfl⟩⟩
    · fin_cases memory <;> exact ⟨rfl, .inl ⟨_, rfl, fun _ => rfl⟩⟩

/-- Settles O47: every row of INC and DEC changes its byte in memory; the one row of each other operation is an implied instruction. -/
theorem incrementAndDecrementResults : Obligations.IncrementAndDecrementResults := by
  refine ⟨?inc, ?dec, ?inx, ?iny, ?dex, ?dey, fun i s =>
    ⟨fun op => (instr_of_encoded (P := IsModify (fun _ m => m + 1) incDecEffect) ?inc ?incRows op).exec_eq_of_flags
        (flags := fun _ => Flags.setNZ) (fun _ _ _ => rfl) rfl,
      fun op => (instr_of_encoded (P := IsModify (fun _ m => m - 1) incDecEffect) ?dec ?decRows op).exec_eq_of_flags
        (flags := fun _ => Flags.setNZ) (fun _ _ _ => rfl) rfl,
      fun op => (instr_of_encoded (P := IsImplied fun s => (s.setX (s.x + 1)).setNZ (s.x + 1)) ?inx ?inxRow op).exec_eq rfl,
      fun op => (instr_of_encoded (P := IsImplied fun s => (s.setY (s.y + 1)).setNZ (s.y + 1)) ?iny ?inyRow op).exec_eq rfl,
      fun op => (instr_of_encoded (P := IsImplied fun s => (s.setX (s.x - 1)).setNZ (s.x - 1)) ?dex ?dexRow op).exec_eq rfl,
      fun op => (instr_of_encoded (P := IsImplied fun s => (s.setY (s.y - 1)).setNZ (s.y - 1)) ?dey ?deyRow op).exec_eq rfl⟩⟩
  case inc | dec | inx | iny | dex | dey =>
    unfold Encoded
    decide
  case incRows | decRows =>
    intro row listed b1 b2
    fin_cases listed <;> exact ⟨rfl, .inl ⟨_, rfl, fun _ => rfl⟩⟩
  case inxRow | inyRow | dexRow | deyRow =>
    intro row listed b1 b2
    obtain rfl := List.mem_singleton.1 listed
    exact ⟨rfl, rfl, fun _ => rfl⟩

end Sys2Proof.Machine
end

section
/-! SUPPORT. Branches, jumps and subroutines as statements (spec/44_control_flow.md R190 to R202): the instructions of mode rel are the
eight branches on their conditions, their target as a signed sum, the pointer of JMP indirect in numbers, and a pulled address as the one
pushed before. -/

namespace Sys2Proof.Machine

open Sys2Proof.Claims

/-! ### Branches -/

/-- The eight instructions of mode rel share one rule; each brings the condition of its operation (R190 to R198). -/
theorem exec_of_rel {i : Instr} {d : Byte} (operand : i.operand = .rel d) (s : State) :
    exec i s = branchRule (branchCondition i.entry.op s.flags) d s := by
  cases i with
  | bpl | bmi | bvc | bvs | bcc | bcs | bne | beq =>
    obtain rfl := Operand.rel.inj operand
    simp [branchCondition]
  | _ => cases operand

/-- The target is the signed displacement from the next instruction's address, modulo 65536 (R190). -/
theorem branchTarget_eq_ofInt (d : Byte) (s : State) :
    branchTarget d s = BitVec.ofInt 16 (((s.pc + 2).toNat : Int) + d.toInt) := by
  rw [branchTarget, BitVec.signExtend, BitVec.ofInt_add, BitVec.ofInt_natCast, BitVec.ofNat_toNat, BitVec.setWidth_eq]

/-- What a branch leaves, either way (R190). -/
theorem branchRule_eq (taken : Bool) (d : Byte) (s : State) :
    branchRule taken d s = .next (
      if taken = true then
        s.retireAt (branchTarget d s) (if hiByte (branchTarget d s) = hiByte (s.pc + 2) then 3 else 4)
      else s.retireAt (s.pc + 2) 2) := by
  cases taken with
  | false => rfl
  | true => simp [branchRule]

/-- Settles O48: each branch is the shared rule on its condition, whose target is the signed sum. -/
theorem branchResults : Obligations.BranchResults := by
  refine ⟨?bcc, ?bcs, ?beq, ?bne, ?bmi, ?bpl, ?bvc, ?bvs, fun i d s operand => ?result⟩
  case bcc | bcs | beq | bne | bmi | bpl | bvc | bvs =>
    unfold Encoded
    decide
  case result =>
    rw [exec_of_rel operand, branchRule_eq, ← branchTarget_eq_ofInt, State.retireAt, apply_ite (BitVec.ofNat 32)]
    rfl

/-! ### Jumps -/

/-- The high byte of an indirect target is one past the pointer, in the pointer's own page (R200). -/
theorem samePageNext_eq_ofNat (w : Addr) :
    wordOf (hiByte w) (loByte w + 1) = BitVec.ofNat 16 (256 * (w.toNat / 256) + (w.toNat + 1) % 256) := by
  have one : (1 : Byte).toNat = 1 := rfl
  apply BitVec.eq_of_toNat_eq
  rw [wordOf_toNat, hiByte_toNat, BitVec.toNat_add, loByte_toNat, one, BitVec.toNat_ofNat]
  omega

/-- Settles O49: both forms end at their target; the pointer's second byte as a number. -/
theorem jumpResults : Obligations.JumpResults := by
  intro w s
  rw [← samePageNext_eq_ofNat]
  exact ⟨rfl, rfl, rfl, rfl⟩

/-! ### Subroutines -/

/-- A byte that neither push of an address reaches reads as before. -/
theorem State.readMem_pushAddr_of_not_reaches {s : State} {a : Addr} (high : s.bus.reaches (stackAddr s.sp) a = false)
    (low : s.bus.reaches (stackAddr (s.sp - 1)) a = false) (w : Addr) : (s.pushAddr w).readMem a = s.readMem a := by
  rw [State.readMem_pushAddr, State.readMem_writeMem_of_not_reaches (s := s.writeMem _ _) low,
    State.readMem_writeMem_of_not_reaches high]

/-- Settles O50: JSR pushes an address and reads a byte after it; what a read after these pushes gives is a law of the stack page. -/
theorem jsrResult : Obligations.JsrResult := by
  intro w s last pushed
  refine ⟨rfl, ?result, fun stack plain => ?readBack, fun high low stored => ⟨_, rfl, ?target⟩, fun plain => ?plainMemory⟩
  case result =>
    rw [show s.sp - 2 = s.sp - 1 - 1 from (BitVec.sub_sub s.sp 1 1).symm]
    rfl
  case readBack => exact State.readMem_pushAddr_of_plain stack plain last
  case target =>
    have kept : (s.pushAddr last).readMem last = s.readMem last := State.readMem_pushAddr_of_not_reaches high low last
    rw [State.retireAt_pc, kept, stored, wordOf_hiByte_loByte]
  case plainMemory =>
    rw [plain]
    refine ⟨fun k => BusMap.plainAt_nil _, BusMap.plainAt_nil _, fun k => ?_⟩
    rw [BusMap.reaches_nil, Bool.beq_comm]
    rfl

/-- Settles O51: two pulls raise `S` by 2 and read one byte each. -/
theorem rtsResult : Obligations.RtsResult := by
  intro s
  rw [show s.sp + 2 = s.sp + 1 + 1 from (BitVec.add_assoc s.sp 1 1).symm]
  exact ⟨rfl, rfl⟩

/-- Two pulls raise `S` to where the pushes of an address found it. -/
theorem State.pushAddr_sp_add_one_add_one (s : State) (w : Addr) : (s.pushAddr w).sp + 1 + 1 = s.sp := by
  rw [State.pushAddr, State.push_sp, State.push_sp, BitVec.sub_add_cancel, BitVec.sub_add_cancel]

/-- Where the stack page is RAM, two pulls read an address just pushed, low byte first (R201, R202). -/
theorem State.wordOf_pullByte_pushAddr {s : State} (stack : StackIsRam s.bus) (w : Addr) :
    wordOf (s.pushAddr w).pulled.pullByte (s.pushAddr w).pullByte = w := by
  have low : (s.pushAddr w).pullByte = loByte w := State.pullByte_push (s := s.push (hiByte w)) stack (loByte w)
  have high : (s.pushAddr w).pulled.pullByte = hiByte w := by
    have apart : s.sp ≠ s.sp - 1 := by bv_omega
    rw [State.pullByte, State.pulled_sp, State.pushAddr_sp_add_one_add_one, State.readMem_pulled,
      State.readMem_pushAddr_of_plain stack (stack _), if_neg (stackAddr_inj.not.2 apart), if_pos rfl]
  rw [low, high, wordOf_hiByte_loByte]

/-! How the last instruction ended does not matter to a pull. -/

@[simp] theorem State.pulled_retireAt (s : State) (w : Addr) (c : Nat) :
    (s.retireAt w c).pulled = s.pulled.retireAt w c := rfl
@[simp] theorem State.pullByte_retireAt (s : State) (w : Addr) (c : Nat) : (s.retireAt w c).pullByte = s.pullByte := rfl

/-- Settles O52: JSR pushes the address of its last byte, RTS pulls it and resumes one past it. -/
theorem rtsUndoesJsr : Obligations.RtsUndoesJsr := by
  intro w s t stack called
  rw [exec_jsr] at called
  obtain rfl := jsrRule_next called
  refine ⟨_, exec_rts _, ?pc, ?sp, ?kept⟩
  case pc =>
    rw [State.retireAt_pc, State.pulled_retireAt, State.pullByte_retireAt, State.pullByte_retireAt,
      State.wordOf_pullByte_pushAddr stack, BitVec.add_assoc]
    rfl
  case sp => simp only [State.retireAt_sp, State.pulled_sp, State.pushAddr_sp_add_one_add_one]
  case kept => simp [State.pushAddr]

end Sys2Proof.Machine
end

section
/-! SUPPORT. Stack, flag and system instructions as statements (spec/45_stack_flags_system.md R210 to R223): the implied instructions
over their `Encoding:` lines, the NOPs of both kinds with their last bus cycle, and what a trap entry leaves on any host's bus. -/

namespace Sys2Proof.Machine

open Sys2Proof.Claims

/-! ### Taking a trap (spec/60_exceptions.md R320, R321) -/

/-- The statements count the pushes, the model lowers `S` by one at a time. -/
theorem sp_sub_two (sp : Byte) : sp - 2 = sp - 1 - 1 := (BitVec.sub_sub sp 1 1).symm

/-- The pushes as the statements write them: the third address is 2 below `S`. -/
theorem State.pushFrame_eq_framed (s : State) (w : Addr) (status : Byte) : s.pushFrame w status = framed s w status := by
  rw [State.pushFrame, framed, sp_sub_two]

/-- Where the stack page is RAM, the three bytes of a frame read back. -/
theorem readMem_framed_of_stackIsRam {s : State} (stack : StackIsRam s.bus) (w : Addr) (status : Byte) :
    (framed s w status).readMem (stackAddr s.sp) = hiByte w ∧
    (framed s w status).readMem (stackAddr (s.sp - 1)) = loByte w ∧
    (framed s w status).readMem (stackAddr (s.sp - 2)) = status := by
  have top_low : s.sp ≠ s.sp - 1 := by bv_omega
  have top_last : s.sp ≠ s.sp - 1 - 1 := by bv_omega
  have low_last : s.sp - 1 ≠ s.sp - 1 - 1 := by bv_omega
  rw [← State.pushFrame_eq_framed, sp_sub_two]
  simp only [State.readMem_pushFrame_of_plain stack (stack _), stackAddr_inj, top_low, top_last, low_last,
    if_true, if_false, and_self]

/-- A byte outside the frame reads as before. -/
theorem readMem_framed_of_outsideFrame {s : State} {a : Addr} (outside : outsideFrame s a) (w : Addr) (status : Byte) :
    (framed s w status).readMem a = s.readMem a := by
  obtain ⟨high, low, last⟩ := outside
  rw [sp_sub_two] at last
  rw [← State.pushFrame_eq_framed, State.readMem_pushFrame_of_not_reaches high low last]

/-- In plain memory the frame is its three addresses. -/
theorem outsideFrame_iff_of_plain {s : State} (plain : s.bus = []) (a : Addr) :
    outsideFrame s a ↔ a ≠ stackAddr s.sp ∧ a ≠ stackAddr (s.sp - 1) ∧ a ≠ stackAddr (s.sp - 2) := by
  simp only [outsideFrame, plain, BusMap.reaches_nil, beq_eq_false_iff_ne, ne_comm]

/-- `enterTrap` is the trap entry of the statements; `pending` is what its caller makes of the pending NMI first. -/
theorem trapTaken_enterTrap (s : State) (pending : Bool) (w : Addr) (breakBit : Bool) (vector : Addr) (label : StepLabel) :
    TrapTaken s (({ s with nmiPending := pending } : State).enterTrap w breakBit vector label) w
      (pushedStatus s.flags breakBit) vector label := by
  have read (a : Addr) : (({ s with nmiPending := pending } : State).enterTrap w breakBit vector label).readMem a =
      (framed s w (pushedStatus s.flags breakBit)).readMem a := by
    rw [State.readMem_enterTrap, ← State.pushFrame_eq_framed]
    rfl
  refine ⟨?state, fun stack => ?frame, fun a outside => ?kept, fun low high => ?vectorRead, fun plain => ?plainMemory⟩
  case state =>
    rw [State.enterTrap_eq, ← State.pushFrame_eq_framed, show s.sp - 3 = s.sp - 1 - 1 - 1 by bv_omega]
    rfl
  case frame => simpa only [read] using readMem_framed_of_stackIsRam stack w _
  case kept => rw [read, readMem_framed_of_outsideFrame outside]
  case vectorRead =>
    rw [← readMem_framed_of_outsideFrame low w (pushedStatus s.flags breakBit),
      ← readMem_framed_of_outsideFrame high w (pushedStatus s.flags breakBit), ← State.pushFrame_eq_framed]
    rfl
  case plainMemory =>
    refine ⟨?_, outsideFrame_iff_of_plain plain⟩
    rw [plain]
    exact fun k => BusMap.plainAt_nil _

/-- What BRK and PHP push: the status byte with bits 5 and 4 set (R211, R222). -/
theorem pushedStatus_true (f : Flags) : pushedStatus f true = f.toByte ||| 0x30 := by
  obtain ⟨n, v, b, d, i, z, c⟩ := f
  revert n v b d i z c
  decide

/-- Settles O14: BRK is the trap entry with the return address 2 past its opcode and bit 4 set. -/
theorem brkTakesTheTrap : Obligations.BrkTakesTheTrap := by
  intro s
  refine ⟨rfl, _, exec_brk s, State.enterTrap_nmiPending .., ?_⟩
  rw [State.status, ← pushedStatus_true]
  exact trapTaken_enterTrap s s.nmiPending (s.pc + 2) true Config.vecIrq .brk

/-! ### Returning from a trap -/

/-- Settles O15: three pulls raise `S` by 3 and read one byte each. -/
theorem rtiRestoresStatusAndAddress : Obligations.RtiRestoresStatusAndAddress := by
  intro s
  rw [show s.sp + 3 = s.sp + 1 + 1 + 1 by bv_omega, show s.sp + 2 = s.sp + 1 + 1 from (BitVec.add_assoc s.sp 1 1).symm]
  exact ⟨rfl, rfl⟩

/-! ### Stack and flag instructions: the one row of each operation is an implied instruction -/

/-- Settles O53: the pushed status of PHP is `pushedStatus_true`. -/
theorem stackInstructionResults : Obligations.StackInstructionResults := by
  refine ⟨?pha, ?php, ?pla, ?plp, fun i s =>
    ⟨fun op => (instr_of_encoded (P := IsImplied fun s => s.push s.a) ?pha ?phaRow op).exec_eq rfl,
      fun op => ((instr_of_encoded (P := IsImplied fun s => s.push (pushedStatus s.flags true)) ?php ?phpRow op).exec_eq rfl).trans
        (by rw [pushedStatus_true]; rfl),
      fun op => (instr_of_encoded (P := IsImplied fun s => (s.pulled.setA s.pullByte).setNZ s.pullByte) ?pla ?plaRow op).exec_eq rfl,
      fun op => (instr_of_encoded (P := IsImplied fun s => s.pulled.setFlags (s.flags.pulled s.pullByte)) ?plp ?plpRow op).exec_eq
        rfl⟩⟩
  case pha | php | pla | plp =>
    unfold Encoded
    decide
  case phaRow | phpRow | plaRow | plpRow =>
    intro row listed b1 b2
    obtain rfl := List.mem_singleton.1 listed
    exact ⟨rfl, rfl, fun _ => rfl⟩

/-- An implied instruction whose effect is this change of the flags. -/
abbrev IsFlagChange (change : Flags → Flags) : Instr → Option Nat → Bool → Prop :=
  IsImplied fun s => s.setFlags (change s.flags)

/-- Settles O54: each flag instruction is a change of one flag. -/
theorem flagInstructionResults : Obligations.FlagInstructionResults := by
  refine ⟨?clc, ?sec, ?cli, ?sei, ?clv, ?cld, ?sed, fun i s =>
    ⟨fun op => (instr_of_encoded (P := IsFlagChange ({ · with c := false })) ?clc ?clcRow op).exec_eq rfl,
      fun op => (instr_of_encoded (P := IsFlagChange ({ · with c := true })) ?sec ?secRow op).exec_eq rfl,
      fun op => (instr_of_encoded (P := IsFlagChange ({ · with i := false })) ?cli ?cliRow op).exec_eq rfl,
      fun op => (instr_of_encoded (P := IsFlagChange ({ · with i := true })) ?sei ?seiRow op).exec_eq rfl,
      fun op => (instr_of_encoded (P := IsFlagChange ({ · with v := false })) ?clv ?clvRow op).exec_eq rfl,
      fun op => (instr_of_encoded (P := IsFlagChange ({ · with d := false })) ?cld ?cldRow op).exec_eq rfl,
      fun op => (instr_of_encoded (P := IsFlagChange ({ · with d := true })) ?sed ?sedRow op).exec_eq rfl⟩⟩
  case clc | sec | cli | sei | clv | cld | sed =>
    unfold Encoded
    decide
  case clcRow | secRow | cliRow | seiRow | clvRow | cldRow | sedRow =>
    intro row listed b1 b2
    obtain rfl := List.mem_singleton.1 listed
    exact ⟨rfl, rfl, fun _ => rfl⟩

/-! ### NOP -/

/-- A read-class instruction ends with the access to its operand (R361 to R363). -/
theorem getLast?_readCycles (m : MemOperand) (s : State) : (readCycles m s).getLast? = some (.read (resolve m s).ea false) :=
  List.getLast?_concat ..

/-- A NOP is an implied instruction or a read, and has no effect either way (R221, R241 to R244). -/
def IsNop (i : Instr) (base : Option Nat) (penalty : Bool) : Prop :=
  IsImplied id i base penalty ∨ IsRead nopEffect i base penalty

theorem IsNop.exec_eq {i : Instr} (nop : IsNop i i.entry.baseCycles i.entry.pagePenalty) (s : State) :
    exec i s = .next (finished i s s) := by
  obtain implied | read := nop
  · exact implied.exec_eq rfl
  · exact read.exec_eq fun _ => rfl

/-- Settles O55: the first 7 rows of NOP are implied instructions, the others reads. -/
theorem nopResults : Obligations.NopResults := by
  refine ⟨?nop, fun i s op => ⟨(instr_of_encoded (P := IsNop) ?nop ?nopRows op).exec_eq s, fun m operand => ?lastCycle⟩⟩
  case nop =>
    unfold Encoded
    decide
  case nopRows =>
    intro row listed b1 b2
    rw [← List.take_append_drop 7 (_ :: _), List.mem_append] at listed
    obtain implied | read := listed
    · refine .inl ?_
      fin_cases implied <;> exact ⟨rfl, rfl, fun _ => rfl⟩
    · refine .inr ?_
      fin_cases read <;> exact ⟨_, rfl, fun _ => rfl⟩
  case lastCycle =>
    have cycles : busActivity i s = readCycles m s := by simp only [busActivity, op, operand, readOrImplied]
    rw [cycles, getLast?_readCycles]

end Sys2Proof.Machine
end

section
/-! SUPPORT. Undocumented opcodes as statements (spec/46_illegal.md R245 to R266): JAM, the read-modify-writes whose new byte is then
combined with `A`, the reads, and the stores whose address may depend on the stored byte. -/

namespace Sys2Proof.Machine

open Sys2Proof.Claims

/-! ### JAM (R245) -/

/-- Settles O56: every row of JAM has the one meaning. -/
theorem jamHalts : Obligations.JamHalts := by
  refine ⟨?jam, fun i s op => instr_of_encoded (P := fun i _ _ => exec i s = jamRule s) ?jam ?jamRows op⟩
  case jam =>
    unfold Encoded
    decide
  case jamRows =>
    intro row listed b1 b2
    fin_cases listed <;> rfl

/-! ### Read-modify-writes combined with `A` (R246 to R249, R252, R253) -/

/-- The instruction changes the byte of its operand, which is in memory, and then has this effect (R118, R181). -/
def IsMemoryModify (change : State → Byte → Byte) (effect : Byte → Byte → State → State) (i : Instr) (base : Option Nat)
    (penalty : Bool) : Prop :=
  (∃ m, i.operand = .mem m) ∧ IsModify change effect i base penalty

section Results

variable {i : Instr} {s : State} {change : State → Byte → Byte} {effect : Byte → Byte → State → State}

/-- The byte goes back to memory, so the effect still meets the old `A`; `r` is another name of the new byte. -/
theorem IsMemoryModify.exec_eq (modify : IsMemoryModify change effect i i.entry.baseCycles i.entry.pagePenalty)
    {r : Byte} (result : change s (operandOf i s) = r) (pc : ∀ old new t, (effect old new t).pc = t.pc)
    {t : State} (combine : (putBack i s r s).a = s.a → effect (operandOf i s) r (putBack i s r s) = t) :
    exec i s = .next (finished i s t) := by
  obtain ⟨⟨m, operand⟩, modify⟩ := modify
  have a : (putBack i s r s).a = s.a := by rw [putBack_of_mem operand, State.writeMem_a]
  rw [modify.exec_eq pc, result, combine a]

end Results

/-- An addition with any carry in numbers; RRA's carry is the bit its rotate moved out (R150, R249). -/
theorem setSum_addWithCarry (m : Byte) (c : Bool) (s : State) : s.setSum (addWithCarry s.a m c) = added m c s := by
  rw [State.setSum, Flags.setArith, addWithCarry_overflow]
  rfl

theorem iscEffect_eq_subtracted (old new : Byte) (s : State) : iscEffect old new s = subtracted new s.flags.c s :=
  sbcEffect_eq_subtracted new s

/-- Settles O57: every row of the six operations changes its byte in memory; what is left is the effect on the old `A` and flags. -/
theorem combinedReadModifyWriteResults : Obligations.CombinedReadModifyWriteResults := by
  refine ⟨?slo, ?rla, ?sre, ?rra, ?dcp, ?isc, fun i s =>
    ⟨fun op => (instr_of_encoded (P := IsMemoryModify (fun _ => aslByte) sloEffect) ?slo ?sloRows op).exec_eq
        (aslByte_eq_shiftLeft _) (fun _ _ _ => rfl) fun a => by rw [sloEffect, a, putBack_flags]; rfl,
      fun op => (instr_of_encoded (P := IsMemoryModify (fun s m => rolByte m s.flags.c) rlaEffect) ?rla ?rlaRows op).exec_eq
        (rolByte_eq_shiftLeft_or _ _) (fun _ _ _ => rfl) fun a => by rw [rlaEffect, a, putBack_flags]; rfl,
      fun op => (instr_of_encoded (P := IsMemoryModify (fun _ => lsrByte) sreEffect) ?sre ?sreRows op).exec_eq
        (lsrByte_eq_ushiftRight _) (fun _ _ _ => rfl) fun a => by rw [sreEffect, a, putBack_flags]; rfl,
      fun op => (instr_of_encoded (P := IsMemoryModify (fun s m => rorByte m s.flags.c) rraEffect) ?rra ?rraRows op).exec_eq
        (rorByte_eq_ushiftRight_or _ _) (fun _ _ _ => rfl) fun _ => setSum_addWithCarry _ _ _,
      fun op => (instr_of_encoded (P := IsMemoryModify (fun _ m => m - 1) dcpEffect) ?dcp ?dcpRows op).exec_eq
        rfl (fun _ _ _ => rfl) fun a => by rw [dcpEffect, a, putBack_flags]; rfl,
      fun op => (instr_of_encoded (P := IsMemoryModify (fun _ m => m + 1) iscEffect) ?isc ?iscRows op).exec_eq
        rfl (fun _ _ _ => rfl) fun _ => by rw [iscEffect_eq_subtracted, putBack_flags]⟩⟩
  case slo | rla | sre | rra | dcp | isc =>
    unfold Encoded
    decide
  case sloRows | rlaRows | sreRows | rraRows | dcpRows | iscRows =>
    intro row listed b1 b2
    fin_cases listed <;> exact ⟨⟨_, rfl⟩, rfl, .inl ⟨_, rfl, fun _ => rfl⟩⟩

/-! ### Reads combined with `A` (R251, R254 to R257, R259) -/

/-- Settles O58: every row of the six operations is a read; ALR and ARR shift as LSR and ROR do. -/
theorem combinedReadResults : Obligations.CombinedReadResults := by
  refine ⟨?lax, ?anc, ?alr, ?arr, ?sbx, ?las, fun i s =>
    ⟨fun op => (instr_of_encoded (P := IsRead laxEffect) ?lax ?laxRows op).exec_eq fun _ => rfl,
      fun op => (instr_of_encoded (P := IsRead ancEffect) ?anc ?ancRows op).exec_eq fun _ => rfl,
      fun op => ((instr_of_encoded (P := IsRead alrEffect) ?alr ?alrRows op).exec_eq fun _ => rfl).trans
        (by rw [← lsrByte_eq_ushiftRight]; rfl),
      fun op => ((instr_of_encoded (P := IsRead arrEffect) ?arr ?arrRows op).exec_eq fun _ => rfl).trans
        (by rw [← rorByte_eq_ushiftRight_or]; rfl),
      fun op => (instr_of_encoded (P := IsRead sbxEffect) ?sbx ?sbxRows op).exec_eq fun _ => rfl,
      fun op => (instr_of_encoded (P := IsRead lasEffect) ?las ?lasRows op).exec_eq fun _ => rfl⟩⟩
  case lax | anc | alr | arr | sbx | las =>
    unfold Encoded
    decide
  case laxRows | ancRows | alrRows | arrRows | sbxRows | lasRows =>
    intro row listed b1 b2
    fin_cases listed <;> exact ⟨_, rfl, fun _ => rfl⟩

/-! ### Reads with an open constant (R260, R261) -/

/-- Where `A` is 0xFF, LXA's constant drops out. -/
theorem lxaValue_of_a_eq_0xFF {s : State} (a : s.a = 0xFF) (magic m : Byte) : lxaValue magic m s = m := by
  rw [lxaValue, a]
  exact (congrArg (· &&& m) BitVec.allOnes_or).trans BitVec.allOnes_and

/-- Where the operand is 0x00, ANE's constant drops out. -/
theorem aneValue_zero (magic : Byte) (s : State) : aneValue magic 0x00 s = 0x00 :=
  BitVec.and_zero

/-- Settles O59: both are reads of their immediate operand, whatever their constants are. -/
theorem unstableImmediateResults : Obligations.UnstableImmediateResults := by
  refine ⟨?ane, ?lxa, fun v s => ⟨rfl, rfl,
    (instr_of_encoded (P := IsRead aneEffect) ?ane ?aneRow (congrArg OpcodeEntry.op (Instr.entry_ane v))).exec_eq fun _ => rfl,
    (instr_of_encoded (P := IsRead lxaEffect) ?lxa ?lxaRow (congrArg OpcodeEntry.op (Instr.entry_lxa v))).exec_eq fun _ => rfl,
    fun a => ?allOnes, fun zero => ?zero⟩⟩
  case ane | lxa =>
    unfold Encoded
    decide
  case aneRow | lxaRow =>
    intro row listed b1 b2
    obtain rfl := List.mem_singleton.1 listed
    exact ⟨_, rfl, fun _ => rfl⟩
  case allOnes =>
    exact ⟨_, rfl, lxaValue_of_a_eq_0xFF a _ v, lxaValue_of_a_eq_0xFF a _ v⟩
  case zero =>
    subst zero
    have result := aneValue_zero Config.aneMagic s
    exact ⟨_, rfl, result, beq_iff_eq.2 result⟩

/-! ### Unstable stores (R262 to R266) -/

/-- The instruction stores this value by the unstable rule after this change of a register, with no more cycles for a page cross. -/
def IsUnstableStore (value : State → Byte) (before : State → State) (i : Instr) (base : Option Nat) (penalty : Bool) : Prop :=
  ∃ m, i.operand = .mem m ∧ penalty = false ∧ ∀ s, exec i s = unstableRule m (base.getD 0) (value s) (before s)

/-- No operand is addressed by `S`. -/
theorem resolve_setSp (m : MemOperand) (v : Byte) (s : State) : resolve m (s.setSp v) = resolve m s := by
  cases m <;> rfl

theorem hiByte_add_one (w : Addr) : hiByte w + 1 = BitVec.ofNat 8 (w.toNat / 256 + 1) := by
  rw [BitVec.ofNat_add, ← hiByte_toNat, BitVec.ofNat_toNat, BitVec.setWidth_eq]
  rfl

theorem unstableValue_eq (r : Byte) (at' : Resolved) :
    unstableValue r at' = r &&& BitVec.ofNat 8 (at'.base.toNat / 256 + 1) := by
  rw [unstableValue, hiByte_add_one]

/-- The change of a register before the store leaves `PC` and the resolved operand; `v` is another name of the stored byte. -/
theorem IsUnstableStore.exec_eq {i : Instr} {s : State} {value : State → Byte} {before : State → State}
    (store : IsUnstableStore value before i i.entry.baseCycles i.entry.pagePenalty) (pc : (before s).pc = s.pc)
    {m : MemOperand} (resolved : resolve m (before s) = resolve m s) (operand : i.operand = .mem m)
    {v : Byte} (stored : unstableValue (value s) (resolve m s) = v) :
    exec i s = .next (finished i s ((before s).writeMem
      (if (resolve m s).crossed = true then wordOf v (loByte (resolve m s).ea) else (resolve m s).ea) v)) := by
  obtain ⟨m', operand', noPenalty, meaning⟩ := store
  obtain rfl : m' = m := Operand.mem.inj (operand'.symm.trans operand)
  have kept (a v) : ((before s).writeMem a v).pc = s.pc := (State.writeMem_pc _ a v).trans pc
  rw [meaning, unstableRule, resolved, unstableAddr, stored,
    retire_eq_finished (kept _ _) (instrLength_of_mem operand) (tableCycles_of_no_penalty noPenalty s)]

/-- Settles O60: every row of the four operations is an unstable store, that of TAS after `S` is set. -/
theorem unstableStoreResults : Obligations.UnstableStoreResults := by
  refine ⟨?sha, ?shx, ?shy, ?tas, fun i m s operand =>
    ⟨fun op => (instr_of_encoded (P := IsUnstableStore (fun s => s.a &&& s.x) id) ?sha ?shaRows op).exec_eq rfl rfl operand
        (unstableValue_eq _ _),
      fun op => (instr_of_encoded (P := IsUnstableStore State.x id) ?shx ?shxRows op).exec_eq rfl rfl operand
        (unstableValue_eq _ _),
      fun op => (instr_of_encoded (P := IsUnstableStore State.y id) ?shy ?shyRows op).exec_eq rfl rfl operand
        (unstableValue_eq _ _),
      fun op => (instr_of_encoded (P := IsUnstableStore (fun s => s.a &&& s.x) fun s => s.setSp (s.a &&& s.x)) ?tas ?tasRows
        op).exec_eq rfl (resolve_setSp m _ s) operand (unstableValue_eq _ _)⟩⟩
  case sha | shx | shy | tas =>
    unfold Encoded
    decide
  case shaRows | shxRows | shyRows | tasRows =>
    intro row listed b1 b2
    fin_cases listed <;> exact ⟨_, rfl, rfl, fun _ => rfl⟩

end Sys2Proof.Machine
end

section
/-! SUPPORT. Steps, interrupts and the halted state as statements (spec/60_exceptions.md R300 to R340): what the boundary check
decides in each case, the one trap entry behind NMI, IRQ and BRK and the RTI that undoes it, what a halted core keeps, and the cycle
count of every instruction. -/

namespace Sys2Proof.Machine

open Sys2Proof.Claims

/-! ### The boundary check in each case (R302, R305), and the step it leads to (R300) -/

section Boundary

variable {s : State}

theorem boundary_of_halted (halted : s.halted = true) : boundary s = .halted := by
  simp [boundary, halted]

theorem boundary_of_nmi (running : s.halted = false) (pending : s.nmiPending = true) : boundary s = .nmi := by
  simp [boundary, running, pending]

theorem boundary_of_irq (running : s.halted = false) (noNmi : s.nmiPending = false) (asserted : s.irqLine = true)
    (unmasked : s.flags.i = false) : boundary s = .irq := by
  simp [boundary, running, noNmi, asserted, unmasked]

theorem boundary_of_no_interrupt (running : s.halted = false) (noNmi : s.nmiPending = false)
    (noIrq : s.irqLine = false ∨ s.flags.i = true) : boundary s = .instruction := by
  obtain released | masked := noIrq
  · simp [boundary, running, noNmi, released]
  · simp [boundary, running, noNmi, masked]

theorem step_of_boundary_halted (event : boundary s = .halted) : step s = .next (haltedStep s) := by
  rw [step, event]

theorem step_of_boundary_nmi (event : boundary s = .nmi) : step s = .next (serviceNmi s) := by
  rw [step, event]

theorem step_of_boundary_irq (event : boundary s = .irq) : step s = .next (serviceIrq s) := by
  rw [step, event]

theorem step_of_boundary_instruction (event : boundary s = .instruction) : step s = exec s.fetchInstr s := by
  rw [step, event]

end Boundary

/-- Settles O7: the fetch is what the three bytes decode to. -/
theorem stepRunsTheDecodedInstruction : Obligations.StepRunsTheDecodedInstruction := by
  intro s i rest running noNmi noIrq decoded
  obtain ⟨rfl, -⟩ : s.fetchInstr = i ∧ _ = rest := by simpa only [decode_fetch, Decoded.instr.injEq] using decoded
  exact step_of_boundary_instruction (boundary_of_no_interrupt running noNmi noIrq)

/-! ### The halted core (R302, R337, R338) -/

/-- Settles O10: a halted step writes the last result alone, which the invariant says stands there already. -/
theorem haltedStepDoesNothing : Obligations.HaltedStepDoesNothing := by
  intro s halted
  have event := boundary_of_halted halted
  have stepped := step_of_boundary_halted event
  refine ⟨stepped, by rw [stepBusActivity, event], fun inv => ?unchanged⟩
  case unchanged =>
    obtain ⟨outcome, cycles⟩ := inv.2 halted
    rw [stepped, haltedStep, ← outcome, ← cycles]

/-- What a program can see of the machine: the registers, the flags and the host's bus, without the hidden bits and the last result. -/
def State.visible (s : State) : Byte × Byte × Byte × Byte × Addr × Flags × Memory × BusMap × Nat :=
  (s.a, s.x, s.y, s.sp, s.pc, s.flags, s.mem, s.bus, s.devices)

/-- The events that only let the core run or drive its interrupt lines. -/
def Event.Quiet (e : Event) : Prop := e = .step ∨ (∃ level, e = .host (.setNmi level)) ∨ ∃ level, e = .host (.setIrq level)

/-- No action of the host but Reset writes the hidden bit `halted` (R336, R337). -/
theorem hostAct_halted {act : HostAction} (notReset : act ≠ .reset) (s : State) : (hostAct act s).halted = s.halted := by
  cases act with
  | reset => exact absurd rfl notReset
  | setNmi | setIrq | writeA | writeX | writeY | writeS | writePC | writeStatus | storeByte | setBus | setDevices => rfl

theorem hostAct_visible_of_quiet {act : HostAction} (quiet : (Event.host act).Quiet) (s : State) :
    (hostAct act s).visible = s.visible := by
  obtain step | ⟨level, nmi⟩ | ⟨level, irq⟩ := quiet
  · cases step
  · cases nmi
    rfl
  · cases irq
    rfl

/-- One event other than Reset leaves a halted core halted, and a quiet one leaves what a program can see. -/
theorem runEvents_cons_of_halted {e : Event} {s : State} (halted : s.halted = true) (notReset : e ≠ .host .reset)
    (rest : List Event) : ∃ t, runEvents (e :: rest) s = runEvents rest t ∧ t.halted = true ∧
      (e.Quiet → t.visible = s.visible) := by
  cases e with
  | step =>
    have stepped := step_of_boundary_halted (boundary_of_halted halted)
    exact ⟨haltedStep s, by rw [runEvents, stepped], halted, fun _ => rfl⟩
  | host act =>
    have other : act ≠ .reset := fun same => notReset (congrArg Event.host same)
    exact ⟨hostAct act s, rfl, (hostAct_halted other s).trans halted, fun quiet => hostAct_visible_of_quiet quiet s⟩

/-- Without a Reset a halted core stays halted through any events, and quiet ones leave what a program can see. -/
theorem runEvents_of_halted {events : List Event} {s : State} (halted : s.halted = true)
    (noReset : Event.host .reset ∉ events) : ∃ t, runEvents events s = .next t ∧ t.halted = true ∧
      ((∀ e ∈ events, e.Quiet) → t.visible = s.visible) := by
  induction events generalizing s with
  | nil => exact ⟨s, rfl, halted, fun _ => rfl⟩
  | cons e rest ih =>
    obtain ⟨first, later⟩ := not_or.1 (List.mem_cons.not.1 noReset)
    obtain ⟨u, run, stillHalted, kept⟩ := runEvents_cons_of_halted halted (Ne.symm first) rest
    obtain ⟨t, ran, haltedAfter, keptAfter⟩ := ih stillHalted later
    refine ⟨t, run.trans ran, haltedAfter, fun quiet => ?_⟩
    obtain ⟨quietFirst, quietLater⟩ := List.forall_mem_cons.1 quiet
    exact (keptAfter quietLater).trans (kept quietFirst)

/-- Settles O20: the events in order, one at a time. -/
theorem onlyResetLeavesTheHaltedState : Obligations.OnlyResetLeavesTheHaltedState := by
  intro events s halted noReset
  obtain ⟨t, ran, stillHalted, kept⟩ := runEvents_of_halted halted noReset
  refine ⟨t, ran, stillHalted, fun quiet => ?_⟩
  simpa only [State.visible, Prod.mk.injEq] using kept quiet

/-! ### The interrupts (R303 to R306, R320) -/

/-- What NMI and IRQ push: the status byte with bit 5 set and bit 4 clear (R320). -/
theorem pushedStatus_false (f : Flags) : pushedStatus f false = (f.toByte ||| 0x20) &&& 0xEF := by
  obtain ⟨n, v, b, d, i, z, c⟩ := f
  revert n v b d i z c
  decide

/-- Settles O11: both are the trap entry at `PC` with bit 4 clear; the NMI clears its pending edge first. -/
theorem interruptsAreServicedAtTheBoundary : Obligations.InterruptsAreServicedAtTheBoundary := by
  intro s running
  rw [State.status, ← pushedStatus_false]
  refine ⟨fun pending => ?nmi, fun noNmi asserted unmasked => ?irq⟩
  case nmi =>
    exact ⟨_, step_of_boundary_nmi (boundary_of_nmi running pending), State.enterTrap_nmiPending ..,
      trapTaken_enterTrap s false s.pc false Config.vecNmi .nmi⟩
  case irq =>
    exact ⟨_, step_of_boundary_irq (boundary_of_irq running noNmi asserted unmasked),
      (State.enterTrap_nmiPending ..).trans noNmi, trapTaken_enterTrap s s.nmiPending s.pc false Config.vecIrq .irq⟩

/-- Settles O12: the trap entry set `I`, and the pending edge is cleared. -/
theorem nmiSequenceMasksIrq : Obligations.NmiSequenceMasksIrq := by
  intro s t running pending stepped
  obtain rfl : serviceNmi s = t := by simpa [step_of_boundary_nmi (boundary_of_nmi running pending)] using stepped
  refine boundary_of_no_interrupt ?running ?noNmi (.inr ?masked)
  case running => exact (State.enterTrap_halted ..).trans running
  case noNmi => exact State.enterTrap_nmiPending ..
  case masked => rw [serviceNmi, State.enterTrap_flags]

/-- Settles O13: CLI and SEI write `I` and leave the lines and the hidden state. -/
theorem interruptFlagActsAtTheNextBoundary : Obligations.InterruptFlagActsAtTheNextBoundary := by
  intro s running noNmi asserted
  exact ⟨⟨_, exec_cli s, boundary_of_irq running noNmi asserted rfl⟩,
    ⟨_, exec_sei s, boundary_of_no_interrupt running noNmi (.inr rfl)⟩⟩

/-- The edge detector: a rising edge leaves an NMI pending, any other level keeps what was pending (R303). -/
theorem State.setNmiLine_nmiPending (s : State) (level : Bool) :
    (s.setNmiLine level).nmiPending = if level = true ∧ s.nmiLine = false then true else s.nmiPending := by
  rw [State.setNmiLine]
  by_cases edge : level = true ∧ s.nmiLine = false
  · obtain ⟨rises, low⟩ := edge
    simp [rises, low]
  · have quiet : (level && !s.nmiLine) = false := by simpa using edge
    rw [quiet, Bool.or_false, if_neg edge]

/-- Settles O19 from the edge detector: a held line was not low, a released one does not rise. -/
theorem interruptLinesEdgeAndLevel : Obligations.InterruptLinesEdgeAndLevel := by
  intro s level
  refine ⟨?edge, fun held => ?held, ?released, rfl⟩
  case edge =>
    rw [← State.setNmiLine_nmiPending]
    rfl
  case held => simp [hostAct, State.setNmiLine_nmiPending, held]
  case released => simp [hostAct, State.setNmiLine_nmiPending]

/-! ### RTI after a trap entry (R322, R323) -/

/-- `t` has the registers and flags of `s`, and its `PC` is `resume`. -/
def Resumes (s t : State) (resume : Addr) : Prop :=
  t.pc = resume ∧ t.flags = s.flags ∧ t.sp = s.sp ∧ t.a = s.a ∧ t.x = s.x ∧ t.y = s.y

/-- Where the stack page is RAM, RTI pulls the frame of the trap entry: status, low byte, high byte. -/
theorem returnFromTrap_enterTrap {s : State} (stack : StackIsRam s.bus) (w : Addr) (breakBit : Bool) (vector : Addr)
    (label : StepLabel) : Resumes s (s.enterTrap w breakBit vector label).returnFromTrap w := by
  obtain ⟨high, low, status⟩ := readMem_framed_of_stackIsRam stack w (pushedStatus s.flags breakBit)
  rw [sp_sub_two] at status
  rw [← State.pushFrame_eq_framed] at high low status
  refine ⟨?pc, ?flags, ?sp, ?a, ?x, ?y⟩
  case pc =>
    simp only [State.returnFromTrap_pc, State.enterTrap_sp, BitVec.sub_add_cancel, State.readMem_enterTrap, high, low,
      wordOf_hiByte_loByte]
  case flags =>
    simp only [State.returnFromTrap_flags, State.enterTrap_sp, BitVec.sub_add_cancel, State.readMem_enterTrap, status,
      Flags.pulled_pushedStatus, State.enterTrap_flags]
  case sp => simp only [State.returnFromTrap_sp, State.enterTrap_sp, BitVec.sub_add_cancel]
  case a | x | y => simp

/-- Settles O16: BRK, NMI and IRQ are one trap entry, at their own return address. -/
theorem rtiUndoesATrapEntry : Obligations.RtiUndoesATrapEntry := by
  intro s t stack
  refine ⟨fun completes => ?brk, fun event stepped => ?interrupt⟩
  case brk =>
    obtain rfl : s.enterTrap _ _ _ _ = t := by simpa using completes
    exact ⟨_, exec_rti _, returnFromTrap_enterTrap stack ..⟩
  case interrupt =>
    obtain nmi | irq := event
    · obtain rfl : serviceNmi s = t := by simpa [step_of_boundary_nmi nmi] using stepped
      exact ⟨_, exec_rti _, returnFromTrap_enterTrap (s := { s with nmiPending := false }) stack ..⟩
    · obtain rfl : serviceIrq s = t := by simpa [step_of_boundary_irq irq] using stepped
      exact ⟨_, exec_rti _, returnFromTrap_enterTrap stack ..⟩

/-! ### Reset (R310) -/

/-- Settles O17: the sequence field by field, with the constants of the configuration. -/
theorem resetSequenceEffect : Obligations.ResetSequenceEffect :=
  fun _ => rfl

/-! ### Cycle counts (R331) -/

/-- The counts of the table: at least 2, and at most 8 with the page-cross penalty. -/
theorem opcodeTable_baseCycles : ∀ o : Byte, ∀ base ∈ (opcodeTable o).baseCycles,
    2 ≤ base ∧ base + (if (opcodeTable o).pagePenalty = true then 1 else 0) ≤ 8 := by
  decide

/-- A row of mode rel has 2 base cycles and no page-cross penalty, and is not that of BRK. -/
theorem opcodeTable_rel : ∀ o : Byte, (opcodeTable o).mode = .rel →
    (opcodeTable o).baseCycles = some 2 ∧ (opcodeTable o).pagePenalty = false ∧ (opcodeTable o).op ≠ .BRK := by
  decide

section Counts

variable {i : Instr} {base : Nat}

theorem tableCycles_of_baseCycles (hasBase : i.entry.baseCycles = some base) (s : State) :
    tableCycles i s = base + (if i.entry.pagePenalty = true ∧ crossedOf i s = true then 1 else 0) := by
  rw [tableCycles, hasBase, Option.getD_some]

theorem tableCycles_eq_add_extraCycle (i : Instr) (s : State) :
    tableCycles i s = i.entry.baseCycles.getD 0 + extraCycle i.entry.pagePenalty (crossedOf i s) := by
  simp only [tableCycles, extraCycle, Bool.and_eq_true]

theorem tableCycles_bounds (hasBase : i.entry.baseCycles = some base) (s : State) :
    2 ≤ tableCycles i s ∧ tableCycles i s ≤ 8 := by
  obtain ⟨least, most⟩ : 2 ≤ base ∧ base + (if i.entry.pagePenalty = true then 1 else 0) ≤ 8 :=
    opcodeTable_baseCycles i.opcode base hasBase
  rw [tableCycles_of_baseCycles hasBase]
  cases crossedOf i s with
  | true => simpa using ⟨by omega, most⟩
  | false => simpa using ⟨least, by omega⟩

/-- A count of the model is a small number, which its 32 bits hold. -/
theorem cycleCount_bounds {c : CycleCount} {n : Nat} (count : c = BitVec.ofNat 32 n) (least : 2 ≤ n) (most : n ≤ 8) :
    2 ≤ c ∧ c ≤ 8 := by
  subst count
  constructor <;> bv_omega

/-- Every meaning but a branch's names the count of its own table row, with the penalty the row gives it. -/
theorem exec_reports_of_not_rel (hasBase : i.entry.baseCycles = some base) (notRel : ∀ d, i.operand ≠ .rel d) (s : State) :
    ∃ t, exec i s = .next t ∧ t.cycles = BitVec.ofNat 32 (tableCycles i s) ∧
      t.outcome = if i.entry.op = .BRK then .brk else .executed := by
  rw [tableCycles_eq_add_extraCycle]
  generalize row : i.entry = e at hasBase ⊢
  cases i
  all_goals
    simp at row
    subst row
  case bpl d | bmi d | bvc d | bvs d | bcc d | bcs d | bne d | beq d => exact absurd rfl (notRel d)
  case jam02 | jam12 | jam22 | jam32 | jam42 | jam52 | jam62 | jam72 | jam92 | jamB2 | jamD2 | jamF2 => cases hasBase
  all_goals exact ⟨_, rfl, rfl, rfl⟩

/-- The branch term: 0 not taken, 1 taken inside the page of the next instruction, 2 taken out of it (R331). -/
def branchTerm (taken : Bool) (next target : Addr) : Nat :=
  if taken = true then (if hiByte target = hiByte next then 1 else 2) else 0

theorem branchTerm_le_two (taken : Bool) (next target : Addr) : branchTerm taken next target ≤ 2 := by
  unfold branchTerm
  split
  · split <;> decide
  · decide

theorem exec_reports_of_rel {d : Byte} (operand : i.operand = .rel d) (s : State) : ∃ t, exec i s = .next t ∧
    t.cycles = BitVec.ofNat 32 (2 + branchTerm (branchCondition i.entry.op s.flags) (s.pc + 2) t.pc) ∧
    t.outcome = .executed := by
  rw [exec_of_rel operand, branchRule_eq]
  cases branchCondition i.entry.op s.flags with
  | false => exact ⟨_, rfl, rfl, rfl⟩
  | true =>
    refine ⟨_, rfl, ?_, rfl⟩
    simp only [if_true, State.retireAt_cycles, State.retireAt_pc, branchTerm]
    split <;> rfl

end Counts

/-- Settles O8: a branch adds its term to the 2 cycles of its row; every other instruction takes the count of its row. -/
theorem cycleCountFollowsTheTable : Obligations.CycleCountFollowsTheTable := by
  intro i s base hasBase
  rw [← tableCycles_of_baseCycles hasBase]
  cases operand : i.operand with
  | rel d =>
    have mode : i.entry.mode = .rel := by rw [← Laws.tableRow i, operand]; rfl
    obtain ⟨two, noPenalty, notBrk⟩ := opcodeTable_rel i.opcode mode
    have count : tableCycles i s = 2 := (tableCycles_of_no_penalty noPenalty s).trans (congrArg (Option.getD · 0) two)
    obtain ⟨t, completes, cycles, outcome⟩ := exec_reports_of_rel operand s
    have term := branchTerm_le_two (branchCondition i.entry.op s.flags) (s.pc + 2) t.pc
    obtain ⟨least, most⟩ := cycleCount_bounds cycles (by omega) (by omega)
    rw [count]
    exact ⟨t, completes, cycles, least, most, outcome.trans (if_neg notBrk).symm⟩
  | imp | acc | ind | mem =>
    obtain ⟨t, completes, cycles, outcome⟩ := exec_reports_of_not_rel hasBase (by simp [operand]) s
    obtain ⟨least, most⟩ := tableCycles_bounds hasBase s
    obtain ⟨two, eight⟩ := cycleCount_bounds cycles least most
    exact ⟨t, completes, cycles, two, eight, outcome⟩

end Sys2Proof.Machine
end
